-- ==== Sys2Proof/Word.lean ====
section
/-! DEFINITION. The word types of SSD1677-SEQ. -/

namespace Sys2Proof

/-- A byte: one bus byte, or one byte of a plane memory (00_scope.md R27, 20_memory.md R70). -/
abbrev Byte := BitVec 8

/-- A host request word (30_encoding.md R90). -/
abbrev RequestWord := BitVec 64

/-- A host register (10_state.md R40). -/
abbrev RegWord := BitVec 32

end Sys2Proof
end

