-- ==== Sys2Proof/Syntax.lean ====
section
/-! DEFINITION. The instructions of SSD1677-SEQ: one constructor for each of the 43 rows of
spec/opcode_table.json. 24 are host request words (30_encoding.md section 2), 19 are bus frames
(section 4), whose operands are their data bytes. -/

namespace Sys2Proof

/-- The two plane memories (10_state.md R60); PLANE = 0 is `bw` (30_encoding.md R96). -/
inductive Plane where
  | bw
  | red
  deriving DecidableEq, Repr

/-- The four rotations (30_encoding.md R93): codes 0 to 3. -/
inductive Rotation where
  | deg0
  | deg90
  | deg180
  | deg270
  deriving DecidableEq, Repr

/-- UpdateMode (30_encoding.md R95): 0 = Fast, 1 = Slow. -/
inductive UpdateMode where
  | fast
  | slow
  deriving DecidableEq, Repr

/-- The instructions. -/
inductive Instr where
  -- host requests
  /-- CONFIGURE, 41_sequencer.md R170. -/
  | configure (rows cols : BitVec 16) (rot : Rotation) (auto : Bool)
  /-- RESET, 41_sequencer.md R174. -/
  | reset
  /-- UPDATE, 41_sequencer.md R180. -/
  | update (bw red : Bool) (mode : UpdateMode)
  /-- SET_PIXEL, 43_framebuffer.md R230. -/
  | setPixel (plane : Plane) (on : Bool) (x y : BitVec 16)
  /-- CLEAR, 43_framebuffer.md R232. -/
  | clear (plane : Plane) (dark : Bool)
  /-- MAP, 42_mapping.md R200. -/
  | map (x y : BitVec 16)
  /-- PEEK, 43_framebuffer.md R234. -/
  | peek (plane : Plane) (index : BitVec 17)
  -- CMD forms, 40_command_layer.md R121
  /-- cmd.driver_output, R122. -/
  | cmdDriverOutput (gates : BitVec 16) (scan : Byte)
  /-- cmd.gate_voltage, R123: VDV in units of 0.1 V. -/
  | cmdGateVoltage (vdv : Byte)
  /-- cmd.booster, R125. -/
  | cmdBooster (inrush : Byte)
  /-- cmd.temp_sensor, R126. -/
  | cmdTempSensor (ext : Bool)
  /-- cmd.sw_reset, R127. -/
  | cmdSwReset
  /-- cmd.data_entry, R128. -/
  | cmdDataEntry (val : Byte)
  /-- cmd.refresh, R129. -/
  | cmdRefresh
  /-- cmd.update_opt1, R130. -/
  | cmdUpdateOpt1 (val : Byte)
  /-- cmd.update_opt2, R131. -/
  | cmdUpdateOpt2 (val : Byte)
  /-- cmd.ram_x_window, R132: START is 10 bits, END is 16. -/
  | cmdRamXWindow (start : BitVec 10) (stop : BitVec 16)
  /-- cmd.ram_y_window, R134. -/
  | cmdRamYWindow (start : BitVec 10) (stop : BitVec 16)
  /-- cmd.fill_bw, R135. -/
  | cmdFillBw (pat : Byte)
  /-- cmd.fill_red, R136. -/
  | cmdFillRed (pat : Byte)
  /-- cmd.ram_x_counter, R137. -/
  | cmdRamXCounter (value : BitVec 16)
  /-- cmd.ram_y_counter, R138. -/
  | cmdRamYCounter (value : BitVec 16)
  /-- cmd.border, R141. -/
  | cmdBorder (val : Byte)
  /-- cmd.nop, R142. -/
  | cmdNop
  -- bus frames, 30_encoding.md R103-R104
  /-- 0x01, R122: gate value and scan-direction byte. -/
  | busDriverOutput (gates : BitVec 16) (scan : Byte)
  /-- 0x03, R123: the quantised voltage code. -/
  | busGateVoltage (code : Byte)
  /-- 0x0C, R125: the four fixed bytes, then the inrush level. -/
  | busBooster (fixed0 fixed1 fixed2 fixed3 inrush : Byte)
  /-- 0x18, R126: the sensor byte. -/
  | busTempSensor (sel : Byte)
  /-- 0x12, R127. -/
  | busSwReset
  /-- 0x11, R128. -/
  | busDataEntry (val : Byte)
  /-- 0x20, R129. -/
  | busRefresh
  /-- 0x21, R130. -/
  | busUpdateOpt1 (val : Byte)
  /-- 0x22, R131. -/
  | busUpdateOpt2 (val : Byte)
  /-- 0x44, R132: start and end, 10 bits each. -/
  | busRamXWindow (start stop : BitVec 10)
  /-- 0x45, R134: start and end, 10 bits each. -/
  | busRamYWindow (start stop : BitVec 10)
  /-- 0x4E, R137. -/
  | busRamXCounter (value : BitVec 16)
  /-- 0x4F, R138. -/
  | busRamYCounter (value : BitVec 16)
  /-- 0x47, R135. -/
  | busFillBw (pat : Byte)
  /-- 0x46, R136. -/
  | busFillRed (pat : Byte)
  /-- 0x24, R139: the bytes of the B/W plane. -/
  | busWriteBwRam (bytes : List Byte)
  /-- 0x26, R140: the bytes of the red plane. -/
  | busWriteRedRam (bytes : List Byte)
  /-- 0x3C, R141. -/
  | busBorder (val : Byte)
  /-- 0x7F, R142. -/
  | busNop
  deriving DecidableEq, Repr

/-- What an instruction is written in: a request word (30_encoding.md R90), or a bus frame, one command
byte followed by its data bytes (R103). -/
inductive Words where
  | request (w : RequestWord)
  | frame (op : Byte) (data : List Byte)
  deriving DecidableEq, Repr

end Sys2Proof
end

