-- ==== Sys2Proof/Config.lean ====
section
/-! DEFINITION. The implementation parameters of 00_scope.md section 4, and the free values.
A value the spec fixes or decides is a definition; a value it leaves OPEN, or calls "any value", is an
opaque constant: no proof can see it. -/

namespace Sys2Proof.Config

/-- MAX_ROWS, R9. -/
def maxRows : Nat := 680

/-- MAX_COLS, R10. -/
def maxCols : Nat := 960

/-- RESET_DELAY_MS, R11. -/
def resetDelayMs : Nat := 10

/-- MAX_XFER, R12. -/
def maxXfer : Nat := 4096

/-- FILL_PATTERN, R13: OPEN (93_implementation_defined.md I17). -/
opaque fillPattern : Byte

/-- GATE_VALUE(rows), R14. -/
def gateValue (rows : BitVec 16) : BitVec 16 := rows

/-- SCAN_BYTE, R15. -/
def scanByte : Byte := 0x00

/-- DATA_ENTRY_BYTE, R16. -/
def dataEntryByte : Byte := 0x03

/-- X_END(cols), R17. A valid configuration has `cols ≥ 8`. -/
def xEnd (cols : BitVec 16) : BitVec 16 := cols - 1

/-- Y_END(rows), R17. A valid configuration has `rows ≥ 1`. -/
def yEnd (rows : BitVec 16) : BitVec 16 := rows - 1

/-- BORDER_BYTE, R18. -/
def borderByte : Byte := 0x01

/-- TEMP_INTERNAL, R19. -/
def tempInternal : Byte := 0x80

/-- TEMP_EXTERNAL, R19: 48 decimal. -/
def tempExternal : Byte := 48

/-- LUT_LOAD_BYTE, R20. -/
def lutLoadByte : Byte := 0xB1

/-- BOOST_FIXED[0..3], R21: OPEN (I18). -/
opaque boostFixed : Fin 4 → Byte

/-- GATE_CODE[0..16], R22: OPEN (I19). -/
opaque gateCode : Fin 17 → Byte

/-- GATE_POR_CODE, R22: OPEN (I20). -/
opaque gatePorCode : Byte

/-- BUSY_ACTIVE, R23: the level of the BUSY pin that means busy. -/
def busyActive : Bool := true

/-- MODE_BYTE, R25. -/
def modeByte : UpdateMode → Byte
  | .fast => 0xFF
  | .slow => 0xF7

/-- The contents of a plane byte after block reset: free (I4, 10_state.md R60; log 3). -/
opaque planeInit : Plane → Nat → Byte

/-- The level of DC after block reset: free (I5, 10_state.md R59; log 4). -/
opaque dcAtReset : Bool

/-- The environment's answer to SendCmd, SendData or ResetPulse (00_scope.md R7, 41_sequencer.md
R160-R162). An error carries the free draws of I6: how many of the operation's events were emitted
(clipped to how many it has), and the level DC is left at when a SendData emitted nothing. -/
inductive OpAnswer where
  | ok
  | err (emitted : Nat) (dcLevel : Bool)
  deriving DecidableEq, Repr, Inhabited

/-- The environment's answer to one poll of the busy line (R7, 41_sequencer.md R163): the level of the
BUSY pin, or a transport error. -/
inductive PollAnswer where
  | level (busyPin : Bool)
  | err
  deriving DecidableEq, Repr, Inhabited

/-- The environment's answer to a transport operation, drawn by a counter: free (I7; log 2). -/
opaque opAnswer : Nat → OpAnswer

/-- The environment's answer to a busy poll, drawn by a counter: free (I7; log 2). -/
opaque pollAnswer : Nat → PollAnswer

end Sys2Proof.Config
end

