-- ==== Sys2Proof/WellFormed.lean ====
section
/-! DEFINITION. The checks an instruction's operands must pass beyond their widths. A request word's
operands have none: every field admits every value (30_encoding.md R93, R101). A bus frame has two. -/

namespace Sys2Proof

/-- The number of bytes a plane can have: `FB_LEN = rows · cols / 8` lies in 1..81600
(00_scope.md R26, 40_command_layer.md R139). -/
def planeLengthOk (n : Nat) : Bool := decide (1 ≤ n) && decide (n ≤ 81600)

/-- The two sensor bytes (40_command_layer.md R126, 92_eei_decisions.md D56: no other can be sent). -/
def sensorByteOk (b : Byte) : Bool := b == 0x80 || b == 0x30

/-- Well-formed instructions. -/
def WellFormed : Instr → Bool
  | .busTempSensor sel => sensorByteOk sel
  | .busWriteBwRam bytes => planeLengthOk bytes.length
  | .busWriteRedRam bytes => planeLengthOk bytes.length
  | .configure .. | .reset | .update .. | .setPixel .. | .clear .. | .map .. | .peek .. => true
  | .cmdDriverOutput .. | .cmdGateVoltage _ | .cmdBooster _ | .cmdTempSensor _ | .cmdSwReset => true
  | .cmdDataEntry _ | .cmdRefresh | .cmdUpdateOpt1 _ | .cmdUpdateOpt2 _ => true
  | .cmdRamXWindow .. | .cmdRamYWindow .. | .cmdFillBw _ | .cmdFillRed _ => true
  | .cmdRamXCounter _ | .cmdRamYCounter _ | .cmdBorder _ | .cmdNop => true
  | .busDriverOutput .. | .busGateVoltage _ | .busBooster .. | .busSwReset | .busDataEntry _ => true
  | .busRefresh | .busUpdateOpt1 _ | .busUpdateOpt2 _ | .busRamXWindow .. | .busRamYWindow .. => true
  | .busRamXCounter _ | .busRamYCounter _ | .busFillBw _ | .busFillRed _ | .busBorder _ => true
  | .busNop => true

end Sys2Proof
end

