-- ==== Sys2Proof/Decode.lean ====
section
/-! DEFINITION. The decoder (30_encoding.md R109 for request words, R103-R104 for bus frames), total and
rejecting by name, and after it the encoder, written from the same tables (R107 for request words). -/

namespace Sys2Proof

/-- Why a word or a frame is no instruction. A request word that decodes to one of these is ILLEGAL (R92). -/
inductive DecodeError where
  /-- OP is 0x0 or 0x9-0xF (R91). -/
  | reservedOp (op : BitVec 4)
  /-- A reserved bit is 1 (R92, R105). -/
  | reservedBits
  /-- SEL is not one of the 17 accepted selectors (R102). -/
  | selector (sel : Byte)
  /-- The command byte is not one of the 19 bus opcodes (R104). -/
  | busOpcode (op : Byte)
  /-- The frame's number of data bytes is not the table's (R104). -/
  | frameLength (op : Byte) (n : Nat)
  /-- A window byte has a bit above the 10 that are sent (40_command_layer.md R132). -/
  | windowBits (op : Byte)
  deriving DecidableEq, Repr

/-! ### Bit fields and byte order -/

/-- `lo8`, 00_scope.md R27. -/
def lo8 (v : BitVec 16) : Byte := v.extractLsb' 0 8

/-- `hi8`, 00_scope.md R27. -/
def hi8 (v : BitVec 16) : Byte := v.extractLsb' 8 8

/-- The 16-bit value sent low byte first (20_memory.md R75). -/
def fromLoHi (lo hi : Byte) : BitVec 16 := hi ++ lo

/-- The OP field (R90). -/
def opField (w : RequestWord) : BitVec 4 := w.extractLsb' 0 4

/-- The SEL field of a CMD word (R99). -/
def selField (w : RequestWord) : Byte := w.extractLsb' 4 8

/-- ROT codes (R93). -/
def Rotation.bits : Rotation → BitVec 2
  | .deg0 => 0
  | .deg90 => 1
  | .deg180 => 2
  | .deg270 => 3

/-- The rotation of a ROT code: every code is defined (R93). -/
def Rotation.ofBits (b : BitVec 2) : Rotation :=
  if b = 0 then .deg0 else if b = 1 then .deg90 else if b = 2 then .deg180 else .deg270

/-- PLANE (R96). -/
def Plane.bit : Plane → Bool
  | .bw => false
  | .red => true

/-- The plane of a PLANE bit (R96). -/
def Plane.ofBit (b : Bool) : Plane := if b then .red else .bw

/-- MODE (R95). -/
def UpdateMode.bit : UpdateMode → Bool
  | .fast => false
  | .slow => true

/-- The mode of a MODE bit (R95). -/
def UpdateMode.ofBit (b : Bool) : UpdateMode := if b then .slow else .fast

/-! ### Request words -/

/-- The instruction, if every bit of `w` from bit `lo` up is 0; a reserved bit set is refused (R92). -/
def noBitsFrom (w : RequestWord) (lo : Nat) (i : Instr) : Except DecodeError Instr :=
  if w >>> lo = 0 then .ok i else .error .reservedBits

/-- A CMD word (R99, R102): the operand fields and reserved bits of SEL's row. -/
def decodeCmd (w : RequestWord) : Except DecodeError Instr :=
  match (selField w).toNat with
  | 0x01 => noBitsFrom w 36 (.cmdDriverOutput (w.extractLsb' 12 16) (w.extractLsb' 28 8))
  | 0x03 => noBitsFrom w 20 (.cmdGateVoltage (w.extractLsb' 12 8))
  | 0x0C => noBitsFrom w 20 (.cmdBooster (w.extractLsb' 12 8))
  | 0x11 => noBitsFrom w 20 (.cmdDataEntry (w.extractLsb' 12 8))
  | 0x12 => noBitsFrom w 12 .cmdSwReset
  | 0x18 => noBitsFrom w 13 (.cmdTempSensor (w.getLsbD 12))
  | 0x20 => noBitsFrom w 12 .cmdRefresh
  | 0x21 => noBitsFrom w 20 (.cmdUpdateOpt1 (w.extractLsb' 12 8))
  | 0x22 => noBitsFrom w 20 (.cmdUpdateOpt2 (w.extractLsb' 12 8))
  | 0x3C => noBitsFrom w 20 (.cmdBorder (w.extractLsb' 12 8))
  | 0x44 => noBitsFrom w 38 (.cmdRamXWindow (w.extractLsb' 12 10) (w.extractLsb' 22 16))
  | 0x45 => noBitsFrom w 38 (.cmdRamYWindow (w.extractLsb' 12 10) (w.extractLsb' 22 16))
  | 0x46 => noBitsFrom w 20 (.cmdFillRed (w.extractLsb' 12 8))
  | 0x47 => noBitsFrom w 20 (.cmdFillBw (w.extractLsb' 12 8))
  | 0x4E => noBitsFrom w 28 (.cmdRamXCounter (w.extractLsb' 12 16))
  | 0x4F => noBitsFrom w 28 (.cmdRamYCounter (w.extractLsb' 12 16))
  | 0x7F => noBitsFrom w 12 .cmdNop
  | _ => .error (.selector (selField w))

/-- `decode(w)` of R109, total on 64-bit words. -/
def decodeRequest (w : RequestWord) : Except DecodeError Instr :=
  match (opField w).toNat with
  | 0x1 => noBitsFrom w 39 (.configure (w.extractLsb' 4 16) (w.extractLsb' 20 16)
      (Rotation.ofBits (w.extractLsb' 36 2)) (w.getLsbD 38))
  | 0x2 => noBitsFrom w 4 .reset
  | 0x3 => noBitsFrom w 7 (.update (w.getLsbD 4) (w.getLsbD 5) (UpdateMode.ofBit (w.getLsbD 6)))
  | 0x4 => noBitsFrom w 38 (.setPixel (Plane.ofBit (w.getLsbD 4)) (w.getLsbD 5)
      (w.extractLsb' 6 16) (w.extractLsb' 22 16))
  | 0x5 => noBitsFrom w 6 (.clear (Plane.ofBit (w.getLsbD 4)) (w.getLsbD 5))
  | 0x6 => if w.extractLsb' 4 2 = 0 then noBitsFrom w 38 (.map (w.extractLsb' 6 16) (w.extractLsb' 22 16))
      else .error .reservedBits
  | 0x7 => decodeCmd w
  | 0x8 => if w.getLsbD 5 then .error .reservedBits
      else noBitsFrom w 23 (.peek (Plane.ofBit (w.getLsbD 4)) (w.extractLsb' 6 17))
  | _ => .error (.reservedOp (opField w))

/-! ### Bus frames -/

/-- A frame with no data byte (R104). -/
def frameData0 (op : Byte) (i : Instr) : List Byte → Except DecodeError Instr
  | [] => .ok i
  | data => .error (.frameLength op data.length)

/-- A frame with one data byte (R104). -/
def frameData1 (op : Byte) (k : Byte → Instr) : List Byte → Except DecodeError Instr
  | [a] => .ok (k a)
  | data => .error (.frameLength op data.length)

/-- A frame with one 16-bit value, low byte first (R104, 20_memory.md R75). -/
def frameData2 (op : Byte) (k : BitVec 16 → Instr) : List Byte → Except DecodeError Instr
  | [lo, hi] => .ok (k (fromLoHi lo hi))
  | data => .error (.frameLength op data.length)

/-- The driver-output frame: a 16-bit value and a byte (R104). -/
def frameData3 (op : Byte) (k : BitVec 16 → Byte → Instr) : List Byte → Except DecodeError Instr
  | [lo, hi, c] => .ok (k (fromLoHi lo hi) c)
  | data => .error (.frameLength op data.length)

/-- A window frame: two 10-bit values, low byte first, the six bits above each 0 (R104). -/
def frameData4 (op : Byte) (k : BitVec 10 → BitVec 10 → Instr) : List Byte → Except DecodeError Instr
  | [slo, shi, elo, ehi] =>
    if shi.toNat < 4 ∧ ehi.toNat < 4 then
      .ok (k ((fromLoHi slo shi).setWidth 10) ((fromLoHi elo ehi).setWidth 10))
    else .error (.windowBits op)
  | data => .error (.frameLength op data.length)

/-- The booster frame: five bytes (R104). -/
def frameData5 (op : Byte) (k : Byte → Byte → Byte → Byte → Byte → Instr) :
    List Byte → Except DecodeError Instr
  | [a, b, c, d, e] => .ok (k a b c d e)
  | data => .error (.frameLength op data.length)

/-- A RAM-write frame: at least one byte (R104, 40_command_layer.md R139). -/
def frameDataN (op : Byte) (k : List Byte → Instr) : List Byte → Except DecodeError Instr
  | [] => .error (.frameLength op 0)
  | data => .ok (k data)

/-- The instruction of a bus frame: one of the 19 opcodes of R104 with the table's number of data bytes. -/
def decodeFrame (op : Byte) (data : List Byte) : Except DecodeError Instr :=
  match op.toNat with
  | 0x01 => frameData3 op .busDriverOutput data
  | 0x03 => frameData1 op .busGateVoltage data
  | 0x0C => frameData5 op .busBooster data
  | 0x11 => frameData1 op .busDataEntry data
  | 0x12 => frameData0 op .busSwReset data
  | 0x18 => frameData1 op .busTempSensor data
  | 0x20 => frameData0 op .busRefresh data
  | 0x21 => frameData1 op .busUpdateOpt1 data
  | 0x22 => frameData1 op .busUpdateOpt2 data
  | 0x24 => frameDataN op .busWriteBwRam data
  | 0x26 => frameDataN op .busWriteRedRam data
  | 0x3C => frameData1 op .busBorder data
  | 0x44 => frameData4 op .busRamXWindow data
  | 0x45 => frameData4 op .busRamYWindow data
  | 0x46 => frameData1 op .busFillRed data
  | 0x47 => frameData1 op .busFillBw data
  | 0x4E => frameData2 op .busRamXCounter data
  | 0x4F => frameData2 op .busRamYCounter data
  | 0x7F => frameData0 op .busNop data
  | _ => .error (.busOpcode op)

/-- The decoder: a request word by R109, a bus frame by R104. -/
def decode : Words → Except DecodeError Instr
  | .request w => decodeRequest w
  | .frame op data => decodeFrame op data

/-- The number of data bytes of a bus opcode's frame (R104); for the two RAM writes, whose N is FB_LEN,
the least FB_LEN a valid configuration has. 0 for a byte that is no bus opcode. -/
def frameLengthOf (op : Byte) : Nat :=
  match op.toNat with
  | 0x01 => 3
  | 0x03 | 0x11 | 0x18 | 0x21 | 0x22 | 0x24 | 0x26 | 0x3C | 0x46 | 0x47 => 1
  | 0x4E | 0x4F => 2
  | 0x44 | 0x45 => 4
  | 0x0C => 5
  | _ => 0

/-- The instruction that the word `w` of `nbits` bits of the opcode table stands for. A row of 8 bits is a
bus frame's command byte, its data bytes zero; a wider row is a request word. -/
def decodeTableWord (nbits w : Nat) : Option Instr :=
  if nbits ≤ 8 then
    (decodeFrame (BitVec.ofNat 8 w) (List.replicate (frameLengthOf (BitVec.ofNat 8 w)) 0)).toOption
  else (decodeRequest (BitVec.ofNat 64 w)).toOption

/-! ### The encoder -/

/-- A field's value placed with its least significant bit at bit `lo` of a request word. -/
def place {n : Nat} (v : BitVec n) (lo : Nat) : RequestWord := v.setWidth 64 <<< lo

/-- A one-bit field placed at bit `lo`. -/
def placeBit (b : Bool) (lo : Nat) : RequestWord := place (BitVec.ofBool b) lo

/-- A CMD word's OP and SEL: `0x7 | SEL << 4` (R99). -/
def cmdWord (sel : Byte) : RequestWord := 0x7#64 ||| place sel 4

/-- The data bytes of a 16-bit value, low byte first (20_memory.md R75). -/
def bytes16 (v : BitVec 16) : List Byte := [lo8 v, hi8 v]

/-- The data bytes of a window frame, low byte first (40_command_layer.md R132, R134). -/
def windowBytes (start stop : BitVec 10) : List Byte :=
  bytes16 (start.setWidth 16) ++ bytes16 (stop.setWidth 16)

/-- The words of an instruction: the assembler's word of R107, or the frame of R104. -/
def encode : Instr → Words
  | .configure rows cols rot auto =>
    .request (0x1#64 ||| place rows 4 ||| place cols 20 ||| place rot.bits 36 ||| placeBit auto 38)
  | .reset => .request 0x2#64
  | .update bw red mode =>
    .request (0x3#64 ||| placeBit bw 4 ||| placeBit red 5 ||| placeBit mode.bit 6)
  | .setPixel plane on x y =>
    .request (0x4#64 ||| placeBit plane.bit 4 ||| placeBit on 5 ||| place x 6 ||| place y 22)
  | .clear plane dark => .request (0x5#64 ||| placeBit plane.bit 4 ||| placeBit dark 5)
  | .map x y => .request (0x6#64 ||| place x 6 ||| place y 22)
  | .peek plane index => .request (0x8#64 ||| placeBit plane.bit 4 ||| place index 6)
  | .cmdDriverOutput gates scan => .request (cmdWord 0x01 ||| place gates 12 ||| place scan 28)
  | .cmdGateVoltage vdv => .request (cmdWord 0x03 ||| place vdv 12)
  | .cmdBooster inrush => .request (cmdWord 0x0C ||| place inrush 12)
  | .cmdTempSensor ext => .request (cmdWord 0x18 ||| placeBit ext 12)
  | .cmdSwReset => .request (cmdWord 0x12)
  | .cmdDataEntry val => .request (cmdWord 0x11 ||| place val 12)
  | .cmdRefresh => .request (cmdWord 0x20)
  | .cmdUpdateOpt1 val => .request (cmdWord 0x21 ||| place val 12)
  | .cmdUpdateOpt2 val => .request (cmdWord 0x22 ||| place val 12)
  | .cmdRamXWindow start stop => .request (cmdWord 0x44 ||| place start 12 ||| place stop 22)
  | .cmdRamYWindow start stop => .request (cmdWord 0x45 ||| place start 12 ||| place stop 22)
  | .cmdFillBw pat => .request (cmdWord 0x47 ||| place pat 12)
  | .cmdFillRed pat => .request (cmdWord 0x46 ||| place pat 12)
  | .cmdRamXCounter value => .request (cmdWord 0x4E ||| place value 12)
  | .cmdRamYCounter value => .request (cmdWord 0x4F ||| place value 12)
  | .cmdBorder val => .request (cmdWord 0x3C ||| place val 12)
  | .cmdNop => .request (cmdWord 0x7F)
  | .busDriverOutput gates scan => .frame 0x01 (bytes16 gates ++ [scan])
  | .busGateVoltage code => .frame 0x03 [code]
  | .busBooster fixed0 fixed1 fixed2 fixed3 inrush => .frame 0x0C [fixed0, fixed1, fixed2, fixed3, inrush]
  | .busTempSensor sel => .frame 0x18 [sel]
  | .busSwReset => .frame 0x12 []
  | .busDataEntry val => .frame 0x11 [val]
  | .busRefresh => .frame 0x20 []
  | .busUpdateOpt1 val => .frame 0x21 [val]
  | .busUpdateOpt2 val => .frame 0x22 [val]
  | .busRamXWindow start stop => .frame 0x44 (windowBytes start stop)
  | .busRamYWindow start stop => .frame 0x45 (windowBytes start stop)
  | .busRamXCounter value => .frame 0x4E (bytes16 value)
  | .busRamYCounter value => .frame 0x4F (bytes16 value)
  | .busFillBw pat => .frame 0x47 [pat]
  | .busFillRed pat => .frame 0x46 [pat]
  | .busWriteBwRam bytes => .frame 0x24 bytes
  | .busWriteRedRam bytes => .frame 0x26 bytes
  | .busBorder val => .frame 0x3C [val]
  | .busNop => .frame 0x7F []

/-! ### The opcode table's match and mask -/

/-- A row of spec/opcode_table.json: its match and its mask. A word is the row's exactly when
`w AND mask = match` (R109). -/
structure TableRow where
  pattern : RequestWord
  mask : RequestWord
  deriving DecidableEq, Repr

/-- The 24 request-word rows of spec/opcode_table.json, in its order. -/
def requestRows : List TableRow :=
  [⟨0x0000000000000001, 0xFFFFFF800000000F⟩, ⟨0x0000000000000002, 0xFFFFFFFFFFFFFFFF⟩,
   ⟨0x0000000000000003, 0xFFFFFFFFFFFFFF8F⟩, ⟨0x0000000000000004, 0xFFFFFFC00000000F⟩,
   ⟨0x0000000000000005, 0xFFFFFFFFFFFFFFCF⟩, ⟨0x0000000000000006, 0xFFFFFFC00000003F⟩,
   ⟨0x0000000000000008, 0xFFFFFFFFFF80002F⟩, ⟨0x0000000000000017, 0xFFFFFFF000000FFF⟩,
   ⟨0x0000000000000037, 0xFFFFFFFFFFF00FFF⟩, ⟨0x00000000000000C7, 0xFFFFFFFFFFF00FFF⟩,
   ⟨0x0000000000000187, 0xFFFFFFFFFFFFEFFF⟩, ⟨0x0000000000000127, 0xFFFFFFFFFFFFFFFF⟩] ++
  [⟨0x0000000000000117, 0xFFFFFFFFFFF00FFF⟩, ⟨0x0000000000000207, 0xFFFFFFFFFFFFFFFF⟩,
   ⟨0x0000000000000217, 0xFFFFFFFFFFF00FFF⟩, ⟨0x0000000000000227, 0xFFFFFFFFFFF00FFF⟩,
   ⟨0x0000000000000447, 0xFFFFFFC000000FFF⟩, ⟨0x0000000000000457, 0xFFFFFFC000000FFF⟩,
   ⟨0x0000000000000477, 0xFFFFFFFFFFF00FFF⟩, ⟨0x0000000000000467, 0xFFFFFFFFFFF00FFF⟩,
   ⟨0x00000000000004E7, 0xFFFFFFFFF0000FFF⟩, ⟨0x00000000000004F7, 0xFFFFFFFFF0000FFF⟩,
   ⟨0x00000000000003C7, 0xFFFFFFFFFFF00FFF⟩, ⟨0x00000000000007F7, 0xFFFFFFFFFFFFFFFF⟩]

/-- The row a request word belongs to. -/
def TableRow.matches (r : TableRow) (w : RequestWord) : Bool := w &&& r.mask == r.pattern

end Sys2Proof
end

