-- ==== Sys2Proof/Machine/State.lean ====
section
/-! DEFINITION. The state of SSD1677-SEQ (10_state.md R64), its reset value (70_reset_and_hazards.md R280),
and the reasons a step can stop. -/

namespace Sys2Proof.Machine

/-- STATUS.STATE (10_state.md R44). `deepSleep` is code 8: reserved, never entered (41_sequencer.md R193). -/
inductive SeqState where
  | unreset
  | hwReset
  | swReset
  | initializing
  | initialized
  | drawing
  | updating
  | indeterminate
  | deepSleep
  deriving DecidableEq, Repr

/-- STATUS.ERR (10_state.md R45, 60_exceptions.md R250). -/
inductive ErrCode where
  | none
  | illegal
  | state
  | config
  | bounds
  | transport
  | timeout
  deriving DecidableEq, Repr

/-- The transport operations (41_sequencer.md R160-R163). -/
inductive TransportOp where
  | sendCmd (b : Byte)
  | sendData (list : List Byte)
  | resetPulse (ms : Nat)
  | busyWait
  deriving DecidableEq, Repr

/-- The events of the trace (20_memory.md R76). -/
inductive Event where
  | cmd (b : Byte)
  | data (b : Byte)
  | rstLow
  | rstHigh
  | delay (ms : Nat)
  | waitReady
  deriving DecidableEq, Repr

/-- A plane memory: the bytes written since block reset, addresses strictly rising. An index it does not
list has not been written and holds its free initial byte (10_state.md R60; log 3). -/
abbrev Memory := List Host.Cell

/-- The canonical form of a plane memory: addresses strictly rising. -/
abbrev Memory.wf (m : Memory) : Prop := m.Pairwise (fun a b => a.1 < b.1)

/-- The state: R64's record, then the model's own fields. -/
structure State where
  /-- STATUS.READY, R42 -/
  ready : Bool
  /-- STATUS.CFG_VALID, R43 -/
  cfgValid : Bool
  /-- STATUS.STATE, R44 -/
  seqState : SeqState
  /-- STATUS.ERR, R45 -/
  err : ErrCode
  /-- STATUS.LAST_OP, R47 -/
  lastOp : BitVec 4
  /-- RESULT.BYTE_INDEX, R48 -/
  byteIndex : BitVec 17
  /-- RESULT.MASK, R48 -/
  mask : Byte
  /-- CFG_DIMS.ROWS, the native height, R49 -/
  rows : BitVec 16
  /-- CFG_DIMS.COLS, the native width, R49 -/
  cols : BitVec 16
  /-- CFG_MODE.ROT, R50 -/
  rot : Rotation
  /-- CFG_MODE.AUTO_UPDATE, R50 -/
  autoUpdate : Bool
  /-- DATA[7:0], R54 -/
  data : Byte
  /-- `step`, R53; STATUS.STEP (R46) shows it in 8 bits -/
  stepCount : Nat
  /-- `SEQ`, R56 -/
  seq : List TransportOp
  /-- `polls`, R57 -/
  polls : Nat
  /-- `final_state`, R58 -/
  finalState : SeqState
  /-- the RST_N pin, R59 -/
  rstN : Bool
  /-- the DC pin, R59 -/
  dc : Bool
  /-- the BW plane memory, R60 -/
  bw : Memory
  /-- the RED plane memory, R60 -/
  red : Memory
  /-- the trace, 20_memory.md R76 -/
  trace : List Event
  /-- BUSY_MAX_POLLS of this instance, 00_scope.md R24; no step changes it (log 5) -/
  busyMaxPolls : Option Nat
  /-- the words the host presents, in order, none accepted yet (41_sequencer.md R165; log 1) -/
  requests : List RequestWord
  /-- the environment's coming answers to transport operations (00_scope.md R7; log 2) -/
  opScript : List Config.OpAnswer
  /-- the environment's coming answers to busy polls (00_scope.md R7; log 2) -/
  pollScript : List Config.PollAnswer
  /-- how many free answers have been drawn (log 2) -/
  draws : Nat
  deriving DecidableEq, Repr

/-- Why a step stops. Each can happen only in states that no run from reset reaches; all are safe. -/
inductive Fault where
  /-- A plane index of FB_LEN or more, which does not exist (20_memory.md R70). Raised by SET_PIXEL when
  the latched dimensions are not valid ones. Safe. -/
  | planeIndex
  /-- A request in progress with no operation of SEQ left (10_state.md R42, R53). Raised by the step. Safe. -/
  | noOperation
  /-- A SendCmd or SendData of SEQ that belongs to none of the 19 frames (40_command_layer.md R144).
  Raised by the step. Safe. -/
  | badFrame
  deriving DecidableEq, Repr

/-- Why an instruction is refused. -/
inductive Refusal where
  /-- The instruction has no meaning yet. Raised by an arm of `exec`; no arm does. Safe. -/
  | notModelled (mnemonic : String)
  deriving DecidableEq, Repr

/-- What a meaning answers. -/
abbrev Result := Host.Outcome State Fault Refusal

/-- The state after block reset (70_reset_and_hazards.md R280). -/
def State.reset : State where
  ready := true
  cfgValid := false
  seqState := .unreset
  err := .none
  lastOp := 0
  byteIndex := 0
  mask := 0
  rows := 0
  cols := 0
  rot := .deg0
  autoUpdate := false
  data := 0
  stepCount := 0
  seq := []
  polls := 0
  finalState := .unreset
  rstN := true
  dc := Config.dcAtReset
  bw := []
  red := []
  trace := []
  busyMaxPolls := none
  requests := []
  opScript := []
  pollScript := []
  draws := 0

end Sys2Proof.Machine
end

