-- ==== Sys2Proof/Machine/Operands.lean ====
section
/-! DEFINITION. Operand checks and forms: the dimensions, the bounds, the mapper (42_mapping.md), the pixel
and fill bytes (43_framebuffer.md), and the frame functions of the command layer (40_command_layer.md). -/

namespace Sys2Proof.Machine

/-! ### Configuration and coordinates -/

/-- `valid(rows, cols)`, 41_sequencer.md R171. -/
def validDims (rows cols : BitVec 16) : Bool :=
  decide (1 ≤ rows.toNat) && decide (rows.toNat ≤ Config.maxRows) &&
  decide (8 ≤ cols.toNat) && decide (cols.toNat ≤ Config.maxCols) && decide (cols.toNat % 8 = 0)

/-- The logical size (LW, LH) of a native W × H panel, 10_state.md R51. -/
def logicalSize (rot : Rotation) (W H : Nat) : Nat × Nat :=
  match rot with
  | .deg0 | .deg180 => (W, H)
  | .deg90 | .deg270 => (H, W)

/-- `inb(x, y)`, 42_mapping.md R201. -/
def inBounds (rot : Rotation) (W H x y : Nat) : Bool :=
  match rot with
  | .deg0 | .deg180 => decide (x < W) && decide (y < H)
  | .deg90 | .deg270 => decide (x < H) && decide (y < W)

/-- `map(x, y, W, H, ROT)`, 42_mapping.md R202-R205, on natural numbers (R210): the byte index and the
mask of the pixel's bit. -/
def mapPixel (rot : Rotation) (W H x y : Nat) : Nat × Byte :=
  match rot with
  | .deg0 => (x / 8 + W / 8 * y, 0x80#8 >>> (x % 8))
  | .deg90 => ((W - 1 - y) / 8 + W / 8 * x, 0x01#8 <<< (y % 8))
  | .deg180 => (W / 8 * H - 1 - (x / 8 + W / 8 * y), 0x01#8 <<< (x % 8))
  | .deg270 => (y / 8 + (H - 1 - x) * (W / 8), 0x80#8 >>> (y % 8))

/-- The byte SET_PIXEL writes back, 43_framebuffer.md R230: "on" clears the bit, "off" sets it. -/
def pixelByte (on : Bool) (b m : Byte) : Byte := if on then b &&& ~~~m else b ||| m

/-- The byte CLEAR writes, 43_framebuffer.md R232. -/
def fillByte (dark : Bool) : Byte := if dark then 0x00 else 0xFF

/-! ### Frame functions -/

/-- `Frame(op, list)`, 40_command_layer.md R120: no SendData when there is no data. -/
def frame (op : Byte) (data : List Byte) : List TransportOp :=
  .sendCmd op :: (if data = [] then [] else [.sendData data])

/-- The quantiser `Q`, 40_command_layer.md R124. -/
def gateVoltageCode (vdv : Byte) : Byte :=
  if 120 ≤ vdv.toNat ∧ vdv.toNat ≤ 200 then Config.gateCode (Fin.ofNat 17 ((vdv.toNat - 120 + 2) / 5))
  else Config.gatePorCode

/-- The sensor byte, 40_command_layer.md R126. -/
def tempByte (ext : Bool) : Byte := if ext then Config.tempExternal else Config.tempInternal

/-- The window-end truncation, 40_command_layer.md R133. -/
def windowEnd (stop : BitVec 16) : BitVec 16 := stop &&& 0x3FF#16

/-- R122. -/
def frameDriverOutput (g : BitVec 16) (s : Byte) : List TransportOp := frame 0x01 (bytes16 g ++ [s])
/-- R123. -/
def frameGateVoltage (vdv : Byte) : List TransportOp := frame 0x03 [gateVoltageCode vdv]
/-- R125. -/
def frameBooster (inrush : Byte) : List TransportOp :=
  frame 0x0C [Config.boostFixed 0, Config.boostFixed 1, Config.boostFixed 2, Config.boostFixed 3, inrush]
/-- R126. -/
def frameTempSensor (ext : Bool) : List TransportOp := frame 0x18 [tempByte ext]
/-- R127. -/
def frameSwReset : List TransportOp := frame 0x12 []
/-- R128. -/
def frameDataEntry (v : Byte) : List TransportOp := frame 0x11 [v]
/-- R129. -/
def frameRefresh : List TransportOp := frame 0x20 []
/-- R130. -/
def frameUpdateOpt1 (v : Byte) : List TransportOp := frame 0x21 [v]
/-- R131. -/
def frameUpdateOpt2 (v : Byte) : List TransportOp := frame 0x22 [v]
/-- R132. -/
def frameRamXWindow (start : BitVec 10) (stop : BitVec 16) : List TransportOp :=
  frame 0x44 (bytes16 (start.setWidth 16) ++ bytes16 (windowEnd stop))
/-- R134. -/
def frameRamYWindow (start : BitVec 10) (stop : BitVec 16) : List TransportOp :=
  frame 0x45 (bytes16 (start.setWidth 16) ++ bytes16 (windowEnd stop))
/-- R135. -/
def frameFillBw (p : Byte) : List TransportOp := frame 0x47 [p]
/-- R136. -/
def frameFillRed (p : Byte) : List TransportOp := frame 0x46 [p]
/-- R137. -/
def frameRamXCounter (v : BitVec 16) : List TransportOp := frame 0x4E (bytes16 v)
/-- R138. -/
def frameRamYCounter (v : BitVec 16) : List TransportOp := frame 0x4F (bytes16 v)
/-- R139. -/
def frameWriteBwRam (bytes : List Byte) : List TransportOp := frame 0x24 bytes
/-- R140. -/
def frameWriteRedRam (bytes : List Byte) : List TransportOp := frame 0x26 bytes
/-- R141. -/
def frameBorder (v : Byte) : List TransportOp := frame 0x3C [v]
/-- R142. -/
def frameNop : List TransportOp := frame 0x7F []

end Sys2Proof.Machine
end

