-- ==== Sys2Proof/Machine/Flags.lean ====
section
/-! DEFINITION. What is computed from the state: the derived registers, the host's view of every register
(10_state.md section 1), and the state preconditions of 60_exceptions.md R252. The block's only flags are
READY, CFG_VALID and ERR (10_state.md R62). -/

namespace Sys2Proof.Machine

/-- STATE codes, 10_state.md R44. -/
def SeqState.code : SeqState → BitVec 4
  | .unreset => 0
  | .hwReset => 1
  | .swReset => 2
  | .initializing => 3
  | .initialized => 4
  | .drawing => 5
  | .updating => 6
  | .indeterminate => 7
  | .deepSleep => 8

/-- ERR codes, 60_exceptions.md R250. -/
def ErrCode.code : ErrCode → BitVec 4
  | .none => 0
  | .illegal => 1
  | .state => 2
  | .config => 3
  | .bounds => 4
  | .transport => 5
  | .timeout => 6

/-- FB_LEN, 10_state.md R52: the number of bytes of each plane. -/
def State.fbLen (s : State) : Nat := if s.cfgValid then s.rows.toNat * s.cols.toNat / 8 else 0

/-- (LW, LH), 10_state.md R51: the reported size. -/
def State.lsize (s : State) : Nat × Nat :=
  if s.cfgValid then logicalSize s.rot s.cols.toNat s.rows.toNat else (0, 0)

/-- STATE ∈ {INITIALIZED, DRAWING}: UPDATE and CMD are allowed (R252, check 2). -/
def State.chipReady (s : State) : Bool := s.seqState == .initialized || s.seqState == .drawing

/-- A coordinate is inside the logical size (42_mapping.md R201). -/
def State.inb (s : State) (x y : BitVec 16) : Bool :=
  inBounds s.rot s.cols.toNat s.rows.toNat x.toNat y.toNat

/-- The mapper on the latched configuration (42_mapping.md R209: native dimensions). -/
def State.mapAt (s : State) (x y : BitVec 16) : Nat × Byte :=
  mapPixel s.rot s.cols.toNat s.rows.toNat x.toNat y.toNat

/-- STATUS, 10_state.md R41. -/
def State.statusWord (s : State) : RegWord :=
  0#8 ++ s.lastOp ++ BitVec.ofNat 8 s.stepCount ++ s.err.code ++ s.seqState.code ++ 0#2 ++
    BitVec.ofBool s.cfgValid ++ BitVec.ofBool s.ready

/-- RESULT, 10_state.md R48. -/
def State.resultWord (s : State) : RegWord := s.mask ++ 0#7 ++ s.byteIndex

/-- CFG_DIMS, 10_state.md R49. -/
def State.cfgDimsWord (s : State) : RegWord := s.cols ++ s.rows

/-- CFG_MODE, 10_state.md R50. -/
def State.cfgModeWord (s : State) : RegWord := 0#29 ++ BitVec.ofBool s.autoUpdate ++ s.rot.bits

/-- LSIZE, 10_state.md R51. -/
def State.lsizeWord (s : State) : RegWord := BitVec.ofNat 16 s.lsize.2 ++ BitVec.ofNat 16 s.lsize.1

/-- FBLEN, 10_state.md R52. -/
def State.fblenWord (s : State) : RegWord := 0#15 ++ BitVec.ofNat 17 s.fbLen

/-- DATA, 10_state.md R54. -/
def State.dataWord (s : State) : RegWord := 0#24 ++ s.data

/-- The host register read port, 10_state.md R40: any register at any time, no side effect. Registers 7 to
15 read 0 (R55). -/
def State.readReg (s : State) (n : BitVec 4) : RegWord :=
  match n.toNat with
  | 0 => s.statusWord
  | 1 => s.resultWord
  | 2 => s.cfgDimsWord
  | 3 => s.cfgModeWord
  | 4 => s.lsizeWord
  | 5 => s.fblenWord
  | 6 => s.dataWord
  | _ => 0

end Sys2Proof.Machine
end

