-- ==== Sys2Proof/Machine/Ops.lean ====
section
/-! DEFINITION. The shared operations: the plane memories, the environment's answers, the transport operations
(41_sequencer.md section 1), accepting and completing a request (section 2), the two ways an error is
taken (60_exceptions.md R254, R255), and the frame in progress. -/

namespace Sys2Proof.Machine

/-! ### Plane memories -/

/-- The byte written at an index, if one has been. -/
def planeFind (a : Nat) : Memory → Option Byte
  | [] => none
  | (b, v) :: m => if a = b then some v else planeFind a m

/-- `MemWrite` of one byte (00_scope.md R29), keeping the addresses strictly rising. -/
def planeWrite (a : Nat) (v : Byte) : Memory → Memory
  | [] => [(a, v)]
  | (b, w) :: m =>
    if a < b then (a, v) :: (b, w) :: m
    else if a = b then (a, v) :: m
    else (b, w) :: planeWrite a v m

/-- The write of `v` to every index below `n` (43_framebuffer.md R232). -/
def planeFill (n : Nat) (v : Byte) (m : Memory) : Memory :=
  (List.range n).map (fun a => (a, v)) ++ m.filter (fun c => decide (n ≤ c.1))

/-- The plane memory a PLANE operand selects (43_framebuffer.md R233). -/
def State.plane (s : State) : Plane → Memory
  | .bw => s.bw
  | .red => s.red

/-- The state with one plane memory replaced. -/
def State.setPlane (s : State) (p : Plane) (m : Memory) : State :=
  match p with
  | .bw => { s with bw := m }
  | .red => { s with red := m }

/-- `MemRead` of one byte (00_scope.md R29): what was written, or the free initial byte (log 3). -/
def State.byteAt (s : State) (p : Plane) (a : Nat) : Byte :=
  match planeFind a (s.plane p) with
  | some v => v
  | none => Config.planeInit p a

/-- `[MemRead(plane, i, 1) for i = 0 .. FB_LEN-1]` (41_sequencer.md R180, 20_memory.md R78). -/
def State.planeBytes (s : State) (p : Plane) : List Byte := (List.range s.fbLen).map (s.byteAt p)

/-! ### The environment's answers (00_scope.md R7) -/

/-- The answer to the transport operation performed now, and the state without it. -/
def State.takeOpAnswer (s : State) : Config.OpAnswer × State :=
  match s.opScript with
  | a :: rest => (a, { s with opScript := rest })
  | [] => (Config.opAnswer s.draws, { s with draws := s.draws + 1 })

/-- The answer to the busy poll made now, and the state without it. -/
def State.takePollAnswer (s : State) : Config.PollAnswer × State :=
  match s.pollScript with
  | a :: rest => (a, { s with pollScript := rest })
  | [] => (Config.pollAnswer s.draws, { s with draws := s.draws + 1 })

/-! ### Events -/

/-- The DC level after an event: a command byte is sent with DC = 0, a data byte with DC = 1 (20_memory.md R76). -/
def dcAfter (dc : Bool) : Event → Bool
  | .cmd _ => false
  | .data _ => true
  | _ => dc

/-- The RST_N level after an event (41_sequencer.md R162). -/
def rstAfter (rstN : Bool) : Event → Bool
  | .rstLow => false
  | .rstHigh => true
  | _ => rstN

/-- `emit` (00_scope.md R29) of a list of events: appended to the trace, the pins following them. -/
def State.emitAll (evs : List Event) (s : State) : State :=
  { s with trace := s.trace ++ evs, dc := evs.foldl dcAfter s.dc, rstN := evs.foldl rstAfter s.rstN }

/-- The data bytes of a SendData cut into transfers of at most `n` bytes (20_memory.md R79); `fuel` bounds
the number of transfers. -/
def cutTransfers (n : Nat) : Nat → List Byte → List (List Byte)
  | 0, _ => []
  | _ + 1, [] => []
  | fuel + 1, b :: bs => (b :: bs).take n :: cutTransfers n fuel ((b :: bs).drop n)

/-- The transfers a SendData is performed as (R79). A transfer holds at least one byte, so the list's length
bounds their number. -/
def transfers (n : Nat) (list : List Byte) : List (List Byte) := cutTransfers n list.length list

/-- The events of a transport operation that succeeds (41_sequencer.md R160-R163). -/
def TransportOp.events : TransportOp → List Event
  | .sendCmd b => [.cmd b]
  | .sendData list => ((transfers Config.maxXfer list).map (fun t => t.map Event.data)).flatten
  | .resetPulse ms => [.rstLow, .delay ms, .rstHigh, .delay ms]
  | .busyWait => [.waitReady]

/-- What a failing operation leaves on the wire (41_sequencer.md R160-R162, 93_implementation_defined.md I6): its
first `emitted` events. A SendData that emitted nothing leaves DC at either level. -/
def State.emitFailed (op : TransportOp) (emitted : Nat) (dcLevel : Bool) (s : State) : State :=
  let evs := op.events.take emitted
  match op, evs with
  | .sendData _, [] => { s with dc := dcLevel }
  | _, _ => s.emitAll evs

/-! ### Taking an error -/

/-- An error found at acceptance, `reject(e)` of 60_exceptions.md R254. -/
def State.reject (e : ErrCode) (s : State) : State := { s with err := e }

/-- An error found while a request runs, `fail(e)` of 60_exceptions.md R255 and 41_sequencer.md R164: the request
ends, `step` unchanged. SEQ, which keeps no meaning then, is dropped (10_state.md R56; log 7). -/
def State.fail (e : ErrCode) (s : State) : State :=
  { s with err := e, seqState := .indeterminate, ready := true, seq := [] }

/-! ### Accepting and completing a request -/

/-- The bookkeeping of every accepted request, `accept` of 41_sequencer.md R166, before its checks. -/
def State.accept (op : BitVec 4) (s : State) : State :=
  { s with lastOp := op, err := .none, stepCount := 0 }

/-- A request with a non-empty SEQ starts: `SEQ`, `final_state` and the entry STATE are set and READY drops
(41_sequencer.md R166). -/
def State.start (seq : List TransportOp) (final entry : SeqState) (s : State) : State :=
  { s with seq := seq, finalState := final, seqState := entry, ready := false, stepCount := 0 }

/-- STATE once `n` operations of the request in progress have succeeded: it changes only during RESET
(41_sequencer.md R179). -/
def State.midState (s : State) (n : Nat) : SeqState :=
  if s.lastOp = 0x2 ∧ n = 1 then .swReset
  else if s.lastOp = 0x2 ∧ n = 3 then .initializing
  else s.seqState

/-- An operation of SEQ has succeeded (41_sequencer.md R167, 10_state.md R53): `step` counts it; after the last
one the request completes, and SEQ is dropped (R56; log 7). `polls` is 0 when a BusyWait starts (R57). -/
def State.advance (s : State) : State :=
  let n := s.stepCount + 1
  if n < s.seq.length then
    { s with stepCount := n, seqState := s.midState n,
             polls := if s.seq[n]? = some .busyWait then 0 else s.polls }
  else { s with stepCount := n, seqState := s.finalState, ready := true, seq := [] }

/-- SET_PIXEL and CLEAR move INITIALIZED to DRAWING (41_sequencer.md R191). -/
def State.enterDrawing (s : State) : State :=
  if s.seqState = .initialized then { s with seqState := .drawing } else s

/-! ### Performing a transport operation -/

/-- SendCmd, SendData or ResetPulse (41_sequencer.md R160-R162): the environment answers Ok or Err. -/
def State.perform (op : TransportOp) (s : State) : State :=
  match s.takeOpAnswer with
  | (.ok, t) => (t.emitAll op.events).advance
  | (.err emitted dcLevel, t) => (t.emitFailed op emitted dcLevel).fail .transport

/-- One poll of a BusyWait (41_sequencer.md R163): the level BUSY_ACTIVE is Busy, the other Ready. -/
def State.pollBusy (s : State) : State :=
  match s.takePollAnswer with
  | (.err, t) => t.fail .transport
  | (.level pin, t) =>
    if pin = Config.busyActive then
      if t.busyMaxPolls = some (t.polls + 1) then ({ t with polls := t.polls + 1 } : State).fail .timeout
      else { t with polls := t.polls + 1 }
    else (t.emitAll TransportOp.busyWait.events).advance

/-! ### The frame in progress -/

/-- The bus frame that operation `k` of a SEQ belongs to: a SendCmd and the SendData after it, if there is
one (40_command_layer.md R120). A SendData has at least one byte (41_sequencer.md R161). -/
def frameAt (seq : List TransportOp) (k : Nat) : Option (Byte × List Byte) :=
  match seq[k]? with
  | some (.sendCmd op) =>
    match seq[k + 1]? with
    | some (.sendData data) => some (op, data)
    | _ => some (op, [])
  | some (.sendData []) => none
  | some (.sendData data) =>
    match k with
    | 0 => none
    | j + 1 =>
      match seq[j]? with
      | some (.sendCmd op) => some (op, data)
      | _ => none
  | _ => none

/-- The operation of the frame `op`, `data` that is due: its SendData when SEQ stands at one, and its SendCmd
otherwise. A SendData is never empty (90_conflicts.md C1). -/
def State.frameOp (op : Byte) (data : List Byte) (s : State) : TransportOp :=
  match s.seq[s.stepCount]? with
  | some (.sendData _) => if data = [] then .sendCmd op else .sendData data
  | _ => .sendCmd op

/-- The operation due of a bus frame is performed: one transport operation a block step (41_sequencer.md
R167; log 6). -/
def State.performFrame (op : Byte) (data : List Byte) (s : State) : State := s.perform (s.frameOp op data)

/-- A CMD request (40_command_layer.md R121): in INITIALIZED or DRAWING its operations start, STATE itself
unchanged; otherwise it is rejected with STATE. -/
def State.runCmd (seq : List TransportOp) (final : SeqState) (s : State) : State :=
  if s.chipReady then s.start seq final s.seqState else s.reject .state

/-- A request that only reads or draws needs CFG_VALID = 1 (60_exceptions.md R252, check 2). -/
def State.whenConfigured (s : State) (k : State → Result) : Result :=
  if s.cfgValid then k s else .next (s.reject .state)

/-- An ILLEGAL word: accepted and rejected (30_encoding.md R92, 41_sequencer.md R166). -/
def State.rejectIllegal (w : RequestWord) (s : State) : State := (s.accept (opField w)).reject .illegal

end Sys2Proof.Machine
end

