-- ==== Sys2Proof/Machine/BusFrames.lean ====
section
/-! DEFINITION. The meanings of the 19 bus frames (40_command_layer.md R122-R142). A frame has one transport
operation, or two when it has data; each run of its meaning performs the one that is due (41_sequencer.md
R167; log 6). -/

namespace Sys2Proof.Machine

/-- bus.driver_output, R122. -/
def execBusDriverOutput (gates : BitVec 16) (scan : Byte) (s : State) : Result :=
  .next (s.performFrame 0x01 (bytes16 gates ++ [scan]))

/-- bus.gate_voltage, R123. -/
def execBusGateVoltage (code : Byte) (s : State) : Result :=
  .next (s.performFrame 0x03 [code])

/-- bus.booster, R125. -/
def execBusBooster (fixed0 fixed1 fixed2 fixed3 inrush : Byte) (s : State) : Result :=
  .next (s.performFrame 0x0C [fixed0, fixed1, fixed2, fixed3, inrush])

/-- bus.temp_sensor, R126. -/
def execBusTempSensor (sel : Byte) (s : State) : Result :=
  .next (s.performFrame 0x18 [sel])

/-- bus.sw_reset, R127. -/
def execBusSwReset (s : State) : Result :=
  .next (s.performFrame 0x12 [])

/-- bus.data_entry, R128. -/
def execBusDataEntry (val : Byte) (s : State) : Result :=
  .next (s.performFrame 0x11 [val])

/-- bus.refresh, R129. -/
def execBusRefresh (s : State) : Result :=
  .next (s.performFrame 0x20 [])

/-- bus.update_opt1, R130. -/
def execBusUpdateOpt1 (val : Byte) (s : State) : Result :=
  .next (s.performFrame 0x21 [val])

/-- bus.update_opt2, R131. -/
def execBusUpdateOpt2 (val : Byte) (s : State) : Result :=
  .next (s.performFrame 0x22 [val])

/-- bus.ram_x_window, R132. -/
def execBusRamXWindow (start stop : BitVec 10) (s : State) : Result :=
  .next (s.performFrame 0x44 (windowBytes start stop))

/-- bus.ram_y_window, R134. -/
def execBusRamYWindow (start stop : BitVec 10) (s : State) : Result :=
  .next (s.performFrame 0x45 (windowBytes start stop))

/-- bus.ram_x_counter, R137. -/
def execBusRamXCounter (value : BitVec 16) (s : State) : Result :=
  .next (s.performFrame 0x4E (bytes16 value))

/-- bus.ram_y_counter, R138. -/
def execBusRamYCounter (value : BitVec 16) (s : State) : Result :=
  .next (s.performFrame 0x4F (bytes16 value))

/-- bus.fill_bw, R135. -/
def execBusFillBw (pat : Byte) (s : State) : Result :=
  .next (s.performFrame 0x47 [pat])

/-- bus.fill_red, R136. -/
def execBusFillRed (pat : Byte) (s : State) : Result :=
  .next (s.performFrame 0x46 [pat])

/-- bus.write_bw_ram, R139. -/
def execBusWriteBwRam (bytes : List Byte) (s : State) : Result :=
  .next (s.performFrame 0x24 bytes)

/-- bus.write_red_ram, R140. -/
def execBusWriteRedRam (bytes : List Byte) (s : State) : Result :=
  .next (s.performFrame 0x26 bytes)

/-- bus.border, R141. -/
def execBusBorder (val : Byte) (s : State) : Result :=
  .next (s.performFrame 0x3C [val])

/-- bus.nop, R142. -/
def execBusNop (s : State) : Result :=
  .next (s.performFrame 0x7F [])

end Sys2Proof.Machine
end

