-- ==== Sys2Proof/Machine/CommandLayer.lean ====
section
/-! DEFINITION. The meanings of the 17 CMD forms (40_command_layer.md R121-R142): each starts its frame, and
0x12 and 0x20 a BusyWait after it. -/

namespace Sys2Proof.Machine

/-- cmd.driver_output, R122. -/
def execCmdDriverOutput (gates : BitVec 16) (scan : Byte) (s : State) : Result :=
  .next ((s.accept 0x7).runCmd (frameDriverOutput gates scan) s.seqState)

/-- cmd.gate_voltage, R123. -/
def execCmdGateVoltage (vdv : Byte) (s : State) : Result :=
  .next ((s.accept 0x7).runCmd (frameGateVoltage vdv) s.seqState)

/-- cmd.booster, R125. -/
def execCmdBooster (inrush : Byte) (s : State) : Result :=
  .next ((s.accept 0x7).runCmd (frameBooster inrush) s.seqState)

/-- cmd.temp_sensor, R126. -/
def execCmdTempSensor (ext : Bool) (s : State) : Result :=
  .next ((s.accept 0x7).runCmd (frameTempSensor ext) s.seqState)

/-- cmd.sw_reset, R127: one BusyWait after the frame, and completion leaves SW_RESET. -/
def execCmdSwReset (s : State) : Result :=
  .next ((s.accept 0x7).runCmd (frameSwReset ++ [.busyWait]) .swReset)

/-- cmd.data_entry, R128. -/
def execCmdDataEntry (val : Byte) (s : State) : Result :=
  .next ((s.accept 0x7).runCmd (frameDataEntry val) s.seqState)

/-- cmd.refresh, R129: one BusyWait after the frame. -/
def execCmdRefresh (s : State) : Result :=
  .next ((s.accept 0x7).runCmd (frameRefresh ++ [.busyWait]) s.seqState)

/-- cmd.update_opt1, R130. -/
def execCmdUpdateOpt1 (val : Byte) (s : State) : Result :=
  .next ((s.accept 0x7).runCmd (frameUpdateOpt1 val) s.seqState)

/-- cmd.update_opt2, R131. -/
def execCmdUpdateOpt2 (val : Byte) (s : State) : Result :=
  .next ((s.accept 0x7).runCmd (frameUpdateOpt2 val) s.seqState)

/-- cmd.ram_x_window, R132. -/
def execCmdRamXWindow (start : BitVec 10) (stop : BitVec 16) (s : State) : Result :=
  .next ((s.accept 0x7).runCmd (frameRamXWindow start stop) s.seqState)

/-- cmd.ram_y_window, R134. -/
def execCmdRamYWindow (start : BitVec 10) (stop : BitVec 16) (s : State) : Result :=
  .next ((s.accept 0x7).runCmd (frameRamYWindow start stop) s.seqState)

/-- cmd.fill_bw, R135. -/
def execCmdFillBw (pat : Byte) (s : State) : Result :=
  .next ((s.accept 0x7).runCmd (frameFillBw pat) s.seqState)

/-- cmd.fill_red, R136. -/
def execCmdFillRed (pat : Byte) (s : State) : Result :=
  .next ((s.accept 0x7).runCmd (frameFillRed pat) s.seqState)

/-- cmd.ram_x_counter, R137. -/
def execCmdRamXCounter (value : BitVec 16) (s : State) : Result :=
  .next ((s.accept 0x7).runCmd (frameRamXCounter value) s.seqState)

/-- cmd.ram_y_counter, R138. -/
def execCmdRamYCounter (value : BitVec 16) (s : State) : Result :=
  .next ((s.accept 0x7).runCmd (frameRamYCounter value) s.seqState)

/-- cmd.border, R141. -/
def execCmdBorder (val : Byte) (s : State) : Result :=
  .next ((s.accept 0x7).runCmd (frameBorder val) s.seqState)

/-- cmd.nop, R142. -/
def execCmdNop (s : State) : Result :=
  .next ((s.accept 0x7).runCmd (frameNop) s.seqState)

end Sys2Proof.Machine
end

