-- ==== Sys2Proof/Machine/Framebuffer.lean ====
section
/-! DEFINITION. The meanings of SET_PIXEL, CLEAR and PEEK (43_framebuffer.md). -/

namespace Sys2Proof.Machine

/-- SET_PIXEL, 43_framebuffer.md R230. The index is below FB_LEN for every valid configuration
(42_mapping.md R207); one that is not does not exist, and the write faults. -/
def execSetPixel (plane : Plane) (on : Bool) (x y : BitVec 16) (s : State) : Result :=
  (s.accept 0x4).whenConfigured fun t =>
    if t.inb x y then
      let i := (t.mapAt x y).1
      let m := (t.mapAt x y).2
      if i < t.fbLen then
        .next (t.setPlane plane (planeWrite i (pixelByte on (t.byteAt plane i) m) (t.plane plane))).enterDrawing
      else .fault .planeIndex
    else .next (t.reject .bounds)

/-- CLEAR, 43_framebuffer.md R232. -/
def execClear (plane : Plane) (dark : Bool) (s : State) : Result :=
  (s.accept 0x5).whenConfigured fun t =>
    .next (t.setPlane plane (planeFill t.fbLen (fillByte dark) (t.plane plane))).enterDrawing

/-- PEEK, 43_framebuffer.md R234. -/
def execPeek (plane : Plane) (index : BitVec 17) (s : State) : Result :=
  (s.accept 0x8).whenConfigured fun t =>
    if index.toNat < t.fbLen then .next { t with data := t.byteAt plane index.toNat }
    else .next (t.reject .bounds)

end Sys2Proof.Machine
end

