-- ==== Sys2Proof/Machine/Mapper.lean ====
section
/-! DEFINITION. The meaning of MAP (42_mapping.md R200). -/

namespace Sys2Proof.Machine

/-- MAP, 42_mapping.md R200. BYTE_INDEX has 17 bits, enough for every valid configuration (R207). -/
def execMap (x y : BitVec 16) (s : State) : Result :=
  (s.accept 0x6).whenConfigured fun t =>
    if t.inb x y then
      .next { t with byteIndex := BitVec.ofNat 17 (t.mapAt x y).1, mask := (t.mapAt x y).2 }
    else .next (t.reject .bounds)

end Sys2Proof.Machine
end

