-- ==== Sys2Proof/Machine/Sequencer.lean ====
section
/-! DEFINITION. The meanings of CONFIGURE, RESET and UPDATE (41_sequencer.md sections 3 to 5). -/

namespace Sys2Proof.Machine

/-- `ResetSeq`, operations 1 to 3 of RESET (41_sequencer.md R175). -/
def resetSeq : List TransportOp :=
  [.resetPulse Config.resetDelayMs] ++ frameSwReset ++ [.busyWait]

/-- `InitSeq(rows, cols)`, operations 4 to 23 of RESET: the nine init steps (41_sequencer.md R177). -/
def initSeq (rows cols : BitVec 16) : List TransportOp :=
  frameFillBw Config.fillPattern ++ frameFillRed Config.fillPattern ++
  frameDriverOutput (Config.gateValue rows) Config.scanByte ++
  frameDataEntry Config.dataEntryByte ++
  frameRamXWindow 0 (Config.xEnd cols) ++ frameRamYWindow 0 (Config.yEnd rows) ++
  frameBorder Config.borderByte ++
  frameTempSensor false ++
  frameUpdateOpt2 Config.lutLoadByte ++
  frameRefresh ++ [.busyWait]

/-- The counters set to 0, which UPDATE sends before each plane (41_sequencer.md R180). -/
def counterReset : List TransportOp := frameRamXCounter 0 ++ frameRamYCounter 0

/-- The SEQ of UPDATE (41_sequencer.md R180, R181): B/W before red, the planes as they are now. -/
def updateSeq (bw red : Bool) (mode : UpdateMode) (s : State) : List TransportOp :=
  (if bw then counterReset ++ frameWriteBwRam (s.planeBytes .bw) else []) ++
  (if red then counterReset ++ frameWriteRedRam (s.planeBytes .red) else []) ++
  frameUpdateOpt2 (Config.modeByte mode) ++ frameRefresh ++ [.busyWait]

/-- CONFIGURE, 41_sequencer.md R170. -/
def execConfigure (rows cols : BitVec 16) (rot : Rotation) (auto : Bool) (s : State) : Result :=
  let t := s.accept 0x1
  if t.cfgValid then .next (t.reject .state)
  else if validDims rows cols then
    .next { t with rows := rows, cols := cols, rot := rot, autoUpdate := auto, cfgValid := true }
  else .next (t.reject .config)

/-- RESET, 41_sequencer.md R174. -/
def execReset (s : State) : Result :=
  (s.accept 0x2).whenConfigured fun t =>
    .next (t.start (resetSeq ++ initSeq t.rows t.cols) .initialized .hwReset)

/-- UPDATE, 41_sequencer.md R180. -/
def execUpdate (bw red : Bool) (mode : UpdateMode) (s : State) : Result :=
  let t := s.accept 0x3
  if t.chipReady then .next (t.start (updateSeq bw red mode t) .drawing .updating)
  else .next (t.reject .state)

end Sys2Proof.Machine
end

