-- ==== Sys2Proof/Machine/Dispatch.lean ====
section
/-! DEFINITION. The dispatch of every instruction to its meaning. -/

namespace Sys2Proof.Machine

def exec (i : Instr) (s : State) : Host.Outcome State Fault Refusal :=
  match i with
  | .configure rows cols rot auto => Sys2Proof.Machine.execConfigure rows cols rot auto s
  | .reset => Sys2Proof.Machine.execReset s
  | .update bw red mode => Sys2Proof.Machine.execUpdate bw red mode s
  | .setPixel plane on x y => Sys2Proof.Machine.execSetPixel plane on x y s
  | .clear plane dark => Sys2Proof.Machine.execClear plane dark s
  | .map x y => Sys2Proof.Machine.execMap x y s
  | .peek plane index => Sys2Proof.Machine.execPeek plane index s
  | .cmdDriverOutput gates scan => Sys2Proof.Machine.execCmdDriverOutput gates scan s
  | .cmdGateVoltage vdv => Sys2Proof.Machine.execCmdGateVoltage vdv s
  | .cmdBooster inrush => Sys2Proof.Machine.execCmdBooster inrush s
  | .cmdTempSensor ext => Sys2Proof.Machine.execCmdTempSensor ext s
  | .cmdSwReset => Sys2Proof.Machine.execCmdSwReset s
  | .cmdDataEntry val => Sys2Proof.Machine.execCmdDataEntry val s
  | .cmdRefresh => Sys2Proof.Machine.execCmdRefresh s
  | .cmdUpdateOpt1 val => Sys2Proof.Machine.execCmdUpdateOpt1 val s
  | .cmdUpdateOpt2 val => Sys2Proof.Machine.execCmdUpdateOpt2 val s
  | .cmdRamXWindow start stop => Sys2Proof.Machine.execCmdRamXWindow start stop s
  | .cmdRamYWindow start stop => Sys2Proof.Machine.execCmdRamYWindow start stop s
  | .cmdFillBw pat => Sys2Proof.Machine.execCmdFillBw pat s
  | .cmdFillRed pat => Sys2Proof.Machine.execCmdFillRed pat s
  | .cmdRamXCounter value => Sys2Proof.Machine.execCmdRamXCounter value s
  | .cmdRamYCounter value => Sys2Proof.Machine.execCmdRamYCounter value s
  | .cmdBorder val => Sys2Proof.Machine.execCmdBorder val s
  | .cmdNop => Sys2Proof.Machine.execCmdNop s
  | .busDriverOutput gates scan => Sys2Proof.Machine.execBusDriverOutput gates scan s
  | .busGateVoltage code => Sys2Proof.Machine.execBusGateVoltage code s
  | .busBooster fixed0 fixed1 fixed2 fixed3 inrush => Sys2Proof.Machine.execBusBooster fixed0 fixed1 fixed2 fixed3 inrush s
  | .busTempSensor sel => Sys2Proof.Machine.execBusTempSensor sel s
  | .busSwReset => Sys2Proof.Machine.execBusSwReset s
  | .busDataEntry val => Sys2Proof.Machine.execBusDataEntry val s
  | .busRefresh => Sys2Proof.Machine.execBusRefresh s
  | .busUpdateOpt1 val => Sys2Proof.Machine.execBusUpdateOpt1 val s
  | .busUpdateOpt2 val => Sys2Proof.Machine.execBusUpdateOpt2 val s
  | .busRamXWindow start stop => Sys2Proof.Machine.execBusRamXWindow start stop s
  | .busRamYWindow start stop => Sys2Proof.Machine.execBusRamYWindow start stop s
  | .busRamXCounter value => Sys2Proof.Machine.execBusRamXCounter value s
  | .busRamYCounter value => Sys2Proof.Machine.execBusRamYCounter value s
  | .busFillBw pat => Sys2Proof.Machine.execBusFillBw pat s
  | .busFillRed pat => Sys2Proof.Machine.execBusFillRed pat s
  | .busWriteBwRam bytes => Sys2Proof.Machine.execBusWriteBwRam bytes s
  | .busWriteRedRam bytes => Sys2Proof.Machine.execBusWriteRedRam bytes s
  | .busBorder val => Sys2Proof.Machine.execBusBorder val s
  | .busNop => Sys2Proof.Machine.execBusNop s

end Sys2Proof.Machine
end

