-- ==== Sys2Proof/Machine/Step.lean ====
section
/-! DEFINITION. One block step (00_scope.md R6, 41_sequencer.md R165-R167): with READY = 1 a presented word is
accepted; with READY = 0 the next transport operation of SEQ is performed. -/

namespace Sys2Proof.Machine

/-- The step with READY = 1: the next request word is taken and accepted (41_sequencer.md R166), an ILLEGAL
one rejected; with no word presented the block waits (70_reset_and_hazards.md R281). -/
def stepIdle (s : State) : Result :=
  match s.requests with
  | [] => .next s
  | w :: rest =>
    match decodeRequest w with
    | .ok i => exec i { s with requests := rest }
    | .error _ => .next (({ s with requests := rest } : State).rejectIllegal w)

/-- The step of a SendCmd or SendData: the bus frame it belongs to is the instruction run. -/
def stepFrame (s : State) : Result :=
  match frameAt s.seq s.stepCount with
  | none => .fault .badFrame
  | some (op, data) =>
    match decodeFrame op data with
    | .ok i => exec i s
    | .error _ => .fault .badFrame

/-- The step with READY = 0: operation SEQ[step] (41_sequencer.md R167). -/
def stepBusy (s : State) : Result :=
  match s.seq[s.stepCount]? with
  | none => .fault .noOperation
  | some .busyWait => .next s.pollBusy
  | some (.resetPulse ms) => .next (s.perform (.resetPulse ms))
  | some (.sendCmd _) => stepFrame s
  | some (.sendData _) => stepFrame s

/-- One block step. -/
def step (s : State) : Host.Outcome State Fault Refusal :=
  if s.ready then stepIdle s else stepBusy s

/-- `s` with the opcode table's word `w` where the next step fetches: a bus frame's command byte (its data
bytes zero) as the SEQ of a running request, a request word as the one the host presents. -/
def State.withFetchWord (s : State) (nbits w : Nat) : State :=
  if nbits ≤ 8 then
    { s with
      ready := false
      stepCount := 0
      seq := frame (BitVec.ofNat 8 w) (List.replicate (frameLengthOf (BitVec.ofNat 8 w)) 0) }
  else { s with ready := true, requests := BitVec.ofNat 64 w :: s.requests }

end Sys2Proof.Machine
end

