-- ==== Sys2Proof/Safety.lean ====
section
/-! DEFINITION. What a good state is, in the terms the statements use: the invariants of every run from block
reset, and what it means that a step does not stop. -/

namespace Sys2Proof.Machine

/-- A step or a meaning goes on: it answers a next state. -/
abbrev Result.goesOn (r : Result) : Prop := ∃ t, r = .next t

/-- Exactly one bit of a byte is 1 (42_mapping.md R207). -/
def oneHot (m : Byte) : Bool :=
  m ∈ [0x01#8, 0x02#8, 0x04#8, 0x08#8, 0x10#8, 0x20#8, 0x40#8, 0x80#8]

/-- The 19 bus opcodes (40_command_layer.md R144). -/
def busOpcodes : List Byte :=
  [0x01, 0x03, 0x0C, 0x11, 0x12, 0x18, 0x20, 0x21, 0x22, 0x24] ++
  [0x26, 0x3C, 0x44, 0x45, 0x46, 0x47, 0x4E, 0x4F, 0x7F]

/-- Every plane address listed exists (20_memory.md R70). -/
abbrev Memory.inside (n : Nat) (m : Memory) : Prop := ∀ c ∈ m, c.1 < n

/-- The configuration, the planes and the result registers are as every run leaves them. -/
structure State.StorageOk (s : State) : Prop where
  /-- the planes keep their canonical form -/
  bwForm : s.bw.wf
  redForm : s.red.wf
  /-- and list only indices below FB_LEN (10_state.md R60, 20_memory.md R70) -/
  bwInside : s.bw.inside s.fbLen
  redInside : s.red.inside s.fbLen
  /-- a latched configuration is a valid one (41_sequencer.md R170, R171) -/
  dims : s.cfgValid = true → validDims s.rows s.cols = true
  /-- an unlatched one is all zero (10_state.md R49, R50) -/
  dimsZero : s.cfgValid = false → s.rows = 0 ∧ s.cols = 0 ∧ s.rot = .deg0 ∧ s.autoUpdate = false
  /-- RESULT is 0 or names one bit of the plane (10_state.md R48, 42_mapping.md R207) -/
  result : (s.byteIndex = 0 ∧ s.mask = 0) ∨ (s.byteIndex.toNat < s.fbLen ∧ oneHot s.mask = true)

/-- Operation `k` of a SEQ can be performed: it is a reset pulse, a busy-wait, or part of one of the 19 frames. -/
def opRuns (seq : List TransportOp) (k : Nat) : Bool :=
  match seq[k]? with
  | none => false
  | some .busyWait => true
  | some (.resetPulse _) => true
  | some _ =>
    match frameAt seq k with
    | none => false
    | some (op, data) => (decodeFrame op data).toBool

/-- STATE and `final_state` of a request in progress, by the request (41_sequencer.md R179, R182;
40_command_layer.md R121). -/
def State.runningState (s : State) : Prop :=
  (s.lastOp = 0x2 ∧ s.finalState = .initialized ∧
    s.seqState = (if s.stepCount = 0 then .hwReset else if s.stepCount < 3 then .swReset else .initializing)) ∨
  (s.lastOp = 0x3 ∧ s.finalState = .drawing ∧ s.seqState = .updating) ∨
  (s.lastOp = 0x7 ∧ s.chipReady = true ∧ (s.finalState = .swReset ∨ s.finalState = s.seqState))

/-- The sequencer is as every run leaves it. -/
structure State.SequencerOk (s : State) : Prop where
  /-- at rest nothing is left of a SEQ and STATE is one a request can be accepted in (41_sequencer.md R190) -/
  atRest : s.ready = true → s.seq = [] ∧
    s.seqState ∈ [SeqState.unreset, .swReset, .initialized, .drawing, .indeterminate]
  /-- in progress an operation is due, each one can be performed, and no error is recorded (10_state.md R53) -/
  inProgress : s.ready = false → s.stepCount < s.seq.length ∧ (∀ k < s.seq.length, opRuns s.seq k = true) ∧
    s.err = .none ∧ s.runningState
  /-- SEQ has at most 23 operations, so STATUS.STEP never wraps (41_sequencer.md R178, 10_state.md R46) -/
  short : s.seq.length ≤ 23 ∧ s.stepCount ≤ 23
  /-- a transport failure is recorded with STATE = INDETERMINATE (60_exceptions.md R255) -/
  failed : s.err = .transport ∨ s.err = .timeout → s.ready = true ∧ s.seqState = .indeterminate
  /-- CFG_VALID = 0 only at rest in UNRESET (41_sequencer.md R190) -/
  unconfigured : s.cfgValid = false → s.ready = true ∧ s.seqState = .unreset
  /-- BUSY_MAX_POLLS is none or at least 1 (93_implementation_defined.md I21), and a busy-wait is under it -/
  bound : s.busyMaxPolls ≠ some 0
  polling : s.ready = false → s.seq[s.stepCount]? = some .busyWait →
    ∀ n, s.busyMaxPolls = some n → s.polls < n

/-- A good state. -/
structure State.Good (s : State) : Prop where
  storage : s.StorageOk
  sequencer : s.SequencerOk

/-- Every command byte sent so far is one of the 19 bus opcodes (40_command_layer.md R144). -/
abbrev State.TraceOk (s : State) : Prop := ∀ b, Event.cmd b ∈ s.trace → b ∈ busOpcodes

end Sys2Proof.Machine
end

