-- ==== Sys2Proof/Certificates/Slice0/Obligations.lean ====
section
/-! DEFINITION. The statements for the provers. -/

open Sys2Proof Sys2Proof.Machine

namespace Sys2Proof.Claims

/-! ### Terms of the statements -/

/-- The 17 CMD forms (40_command_layer.md R121). -/
def isCmd : Instr → Bool
  | .cmdDriverOutput .. | .cmdGateVoltage _ | .cmdBooster _ | .cmdTempSensor _ | .cmdSwReset => true
  | .cmdDataEntry _ | .cmdRefresh | .cmdUpdateOpt1 _ | .cmdUpdateOpt2 _ => true
  | .cmdRamXWindow .. | .cmdRamYWindow .. | .cmdFillBw _ | .cmdFillRed _ => true
  | .cmdRamXCounter _ | .cmdRamYCounter _ | .cmdBorder _ | .cmdNop => true
  | _ => false

/-- The dimensions of a valid configuration, in the words of 41_sequencer.md R171. -/
def dimsInRange (rows cols : BitVec 16) : Prop :=
  1 ≤ rows.toNat ∧ rows.toNat ≤ 680 ∧ 8 ≤ cols.toNat ∧ cols.toNat ≤ 960 ∧ cols.toNat % 8 = 0

/-- A coordinate inside the logical size (42_mapping.md R201). -/
def insideLogical (rot : Rotation) (W H x y : Nat) : Prop :=
  if rot = .deg0 ∨ rot = .deg180 then x < W ∧ y < H else x < H ∧ y < W

/-- `N_ROT(x, y)`, the native pixel of a logical one (42_mapping.md R206). -/
def nativePixel (rot : Rotation) (W H x y : Nat) : Nat × Nat :=
  match rot with
  | .deg0 => (x, y)
  | .deg90 => (W - 1 - y, x)
  | .deg180 => (W - 1 - x, H - 1 - y)
  | .deg270 => (y, H - 1 - x)

/-- The events of a transport operation that succeeds (41_sequencer.md R160-R163), no transfer shown. -/
def wireEvents : TransportOp → List Event
  | .sendCmd b => [.cmd b]
  | .sendData l => l.map Event.data
  | .resetPulse ms => [.rstLow, .delay ms, .rstHigh, .delay ms]
  | .busyWait => [.waitReady]

/-- The operation due: SEQ[step] of a request in progress, one the step can perform. -/
def due (s : State) (op : TransportOp) : Prop :=
  s.ready = false ∧ s.seq[s.stepCount]? = some op ∧ opRuns s.seq s.stepCount = true

/-- What no transport operation changes: the configuration, the planes, RESULT, DATA, LAST_OP, the request
queue and the poll bound. -/
def sameStore (s t : State) : Prop :=
  t.cfgValid = s.cfgValid ∧ t.rows = s.rows ∧ t.cols = s.cols ∧ t.rot = s.rot ∧
  t.autoUpdate = s.autoUpdate ∧ t.bw = s.bw ∧ t.red = s.red ∧ t.byteIndex = s.byteIndex ∧
  t.mask = s.mask ∧ t.data = s.data ∧ t.lastOp = s.lastOp ∧ t.requests = s.requests ∧
  t.busyMaxPolls = s.busyMaxPolls

/-- What `n` answers of the same kind look like in a script. -/
def busyPolls (n : Nat) : List Config.PollAnswer := List.replicate n (.level true)

/-- A request's number of transport operations (41_sequencer.md R178). -/
def operationCount : Instr → Nat
  | .reset => 23
  | .update bw red _ => 4 + 6 * (bw.toNat + red.toNat)
  | .cmdNop => 1
  | i => if isCmd i then 2 else 0

/-- The errors a request can raise at acceptance (60_exceptions.md R251), ILLEGAL apart. -/
def acceptanceErrors : Instr → List ErrCode
  | .configure .. => [.state, .config]
  | .setPixel .. | .map .. | .peek .. => [.state, .bounds]
  | _ => [.state]

/-- The bits that select a row of the opcode table: OP, and SEL in a CMD word (30_encoding.md R90, R99). Every
other bit of the row's mask is a reserved bit. -/
def selectorBits (r : TableRow) : RequestWord := if r.pattern &&& 0xF = 0x7 then 0xFFF else 0xF

/-- The field `w[hi:lo]` of a request word, read as an unsigned number (00_scope.md R27). -/
def fieldOf (w : RequestWord) (hi lo : Nat) : Nat := w.toNat / 2 ^ lo % 2 ^ (hi + 1 - lo)

/-- The ROT codes of 30_encoding.md R93. -/
def rotCode : Rotation → Nat
  | .deg0 => 0
  | .deg90 => 1
  | .deg180 => 2
  | .deg270 => 3

/-- The MODE codes of 30_encoding.md R95. -/
def modeCode : UpdateMode → Nat
  | .fast => 0
  | .slow => 1

/-- The PLANE codes of 30_encoding.md R96. -/
def planeCode : Plane → Nat
  | .bw => 0
  | .red => 1

/-- The word is a CMD word of this selector (30_encoding.md R99). -/
def isSel (w : RequestWord) (sel : Nat) : Prop := fieldOf w 3 0 = 0x7 ∧ fieldOf w 11 4 = sel

/-- OP, SEL and every operand of a request stand in the word where 30_encoding.md R93-R100 place them. A bus frame
is no request word. -/
def operandsRead (w : RequestWord) : Instr → Prop
  | .configure rows cols rot auto => fieldOf w 3 0 = 0x1 ∧ rows.toNat = fieldOf w 19 4 ∧
      cols.toNat = fieldOf w 35 20 ∧ rotCode rot = fieldOf w 37 36 ∧ auto.toNat = fieldOf w 38 38
  | .reset => fieldOf w 3 0 = 0x2
  | .update bw red mode => fieldOf w 3 0 = 0x3 ∧ bw.toNat = fieldOf w 4 4 ∧ red.toNat = fieldOf w 5 5 ∧
      modeCode mode = fieldOf w 6 6
  | .setPixel plane on x y => fieldOf w 3 0 = 0x4 ∧ planeCode plane = fieldOf w 4 4 ∧ on.toNat = fieldOf w 5 5 ∧
      x.toNat = fieldOf w 21 6 ∧ y.toNat = fieldOf w 37 22
  | .clear plane dark => fieldOf w 3 0 = 0x5 ∧ planeCode plane = fieldOf w 4 4 ∧ dark.toNat = fieldOf w 5 5
  | .map x y => fieldOf w 3 0 = 0x6 ∧ x.toNat = fieldOf w 21 6 ∧ y.toNat = fieldOf w 37 22
  | .peek plane index => fieldOf w 3 0 = 0x8 ∧ planeCode plane = fieldOf w 4 4 ∧ index.toNat = fieldOf w 22 6
  | .cmdDriverOutput gates scan => isSel w 0x01 ∧ gates.toNat = fieldOf w 27 12 ∧ scan.toNat = fieldOf w 35 28
  | .cmdGateVoltage vdv => isSel w 0x03 ∧ vdv.toNat = fieldOf w 19 12
  | .cmdBooster inrush => isSel w 0x0C ∧ inrush.toNat = fieldOf w 19 12
  | .cmdTempSensor ext => isSel w 0x18 ∧ ext.toNat = fieldOf w 12 12
  | .cmdSwReset => isSel w 0x12
  | .cmdDataEntry val => isSel w 0x11 ∧ val.toNat = fieldOf w 19 12
  | .cmdRefresh => isSel w 0x20
  | .cmdUpdateOpt1 val => isSel w 0x21 ∧ val.toNat = fieldOf w 19 12
  | .cmdUpdateOpt2 val => isSel w 0x22 ∧ val.toNat = fieldOf w 19 12
  | .cmdRamXWindow start stop => isSel w 0x44 ∧ start.toNat = fieldOf w 21 12 ∧ stop.toNat = fieldOf w 37 22
  | .cmdRamYWindow start stop => isSel w 0x45 ∧ start.toNat = fieldOf w 21 12 ∧ stop.toNat = fieldOf w 37 22
  | .cmdFillBw pat => isSel w 0x47 ∧ pat.toNat = fieldOf w 19 12
  | .cmdFillRed pat => isSel w 0x46 ∧ pat.toNat = fieldOf w 19 12
  | .cmdRamXCounter value => isSel w 0x4E ∧ value.toNat = fieldOf w 27 12
  | .cmdRamYCounter value => isSel w 0x4F ∧ value.toNat = fieldOf w 27 12
  | .cmdBorder val => isSel w 0x3C ∧ val.toNat = fieldOf w 19 12
  | .cmdNop => isSel w 0x7F
  | .busDriverOutput .. | .busGateVoltage _ | .busBooster .. | .busTempSensor _ | .busSwReset => False
  | .busDataEntry _ | .busRefresh | .busUpdateOpt1 _ | .busUpdateOpt2 _ => False
  | .busRamXWindow .. | .busRamYWindow .. | .busRamXCounter _ | .busRamYCounter _ => False
  | .busFillBw _ | .busFillRed _ | .busWriteBwRam _ | .busWriteRedRam _ | .busBorder _ | .busNop => False

/-- The byte index and mask of a logical coordinate, in the words of 42_mapping.md R202-R205. -/
def rotationFormula (rot : Rotation) (W H x y : Nat) : Nat × Byte :=
  match rot with
  | .deg0 => (x / 8 + W / 8 * y, 0x80#8 >>> (x % 8))
  | .deg90 => ((W - 1 - y) / 8 + W / 8 * x, 0x01#8 <<< (y % 8))
  | .deg180 => (W / 8 * H - 1 - (x / 8 + W / 8 * y), 0x01#8 <<< (x % 8))
  | .deg270 => (y / 8 + (H - 1 - x) * (W / 8), 0x80#8 >>> (y % 8))

/-- The command byte of a bus frame goes out (41_sequencer.md R160): with SEQ at a SendCmd and the
environment's answer Ok, the meaning sends `op` with DC = 0 and advances. -/
def sendsCommand (i : Instr) (op : Byte) : Prop :=
  ∀ (s : State) (b : Byte) (rest : List Config.OpAnswer),
    s.seq[s.stepCount]? = some (.sendCmd b) → s.opScript = .ok :: rest →
    exec i s = .next ({ s with
      opScript := rest, trace := s.trace ++ [.cmd op], dc := false } : State).advance

/-- The data bytes of a bus frame go out (41_sequencer.md R161): with SEQ at a SendData and the environment's
answer Ok, the meaning sends `data` with DC = 1 and advances. -/
def sendsData (i : Instr) (data : List Byte) : Prop :=
  ∀ (s : State) (l : List Byte) (rest : List Config.OpAnswer),
    s.seq[s.stepCount]? = some (.sendData l) → s.opScript = .ok :: rest →
    exec i s = .next ({ s with
      opScript := rest, trace := s.trace ++ data.map Event.data, dc := true } : State).advance

/-- A CMD form starts `seq` and ends in `final`: STATUS.STATE stays as it is while it runs. -/
def startsCmd (i : Instr) (s : State) (seq : List TransportOp) (final : SeqState) : Prop :=
  exec i s = .next { s with
    lastOp := 0x7, err := .none, stepCount := 0, ready := false, seq := seq, finalState := final }

end Sys2Proof.Claims

open Sys2Proof.Claims

/-! ### Encoding -/

/-- 30_encoding.md R93-R100, R104; 95_test_vectors.md sections 1.2 and 2.1 to 2.5: a word of every request form, and a
frame of every bus opcode, its operands distinct, decodes to what the spec says it is; two words are ILLEGAL. -/
def Obligations.DecodeReadsSpecWords : Prop :=
  (decodeRequest 0x0000007032001E01 = .ok (.configure 480 800 .deg270 true) ∧
    decodeRequest 0x0000002032001E01 = .ok (.configure 480 800 .deg180 false) ∧
    decodeRequest 0x0000001032001E01 = .ok (.configure 480 800 .deg90 false) ∧
    decodeRequest 0x0000000000000002 = .ok .reset ∧
    decodeRequest 0x0000000000000053 = .ok (.update true false .slow) ∧
    decodeRequest 0x0000000000000023 = .ok (.update false true .fast) ∧
    decodeRequest 0x0000000000400264 = .ok (.setPixel .bw true 9 1) ∧
    decodeRequest 0x0000000000400254 = .ok (.setPixel .red false 9 1) ∧
    decodeRequest 0x0000000000000025 = .ok (.clear .bw true) ∧
    decodeRequest 0x0000000000000015 = .ok (.clear .red false) ∧
    decodeRequest 0x0000000003C00086 = .ok (.map 2 15) ∧
    decodeRequest 0x00000000007FFFD8 = .ok (.peek .red 131071) ∧
    decodeRequest 0x00000000000000C8 = .ok (.peek .bw 3)) ∧
  (decodeRequest 0x0000000A501E0017 = .ok (.cmdDriverOutput 480 0xA5) ∧
    decodeRequest 0x0000000000098037 = .ok (.cmdGateVoltage 152) ∧
    decodeRequest 0x00000000000050C7 = .ok (.cmdBooster 5) ∧
    decodeRequest 0x0000000000000187 = .ok (.cmdTempSensor false) ∧
    decodeRequest 0x0000000000001187 = .ok (.cmdTempSensor true) ∧
    decodeRequest 0x0000000000000127 = .ok .cmdSwReset ∧
    decodeRequest 0x0000000000003117 = .ok (.cmdDataEntry 0x03) ∧
    decodeRequest 0x0000000000000207 = .ok .cmdRefresh ∧
    decodeRequest 0x0000000000012217 = .ok (.cmdUpdateOpt1 0x12) ∧
    decodeRequest 0x00000000000F7227 = .ok (.cmdUpdateOpt2 0xF7)) ∧
  (decodeRequest 0x00000000C7C05447 = .ok (.cmdRamXWindow 5 799) ∧
    decodeRequest 0x0000000077C06457 = .ok (.cmdRamYWindow 6 479) ∧
    decodeRequest 0x0000000000066477 = .ok (.cmdFillBw 0x66) ∧
    decodeRequest 0x0000000000066467 = .ok (.cmdFillRed 0x66) ∧
    decodeRequest 0x00000000012344E7 = .ok (.cmdRamXCounter 0x1234) ∧
    decodeRequest 0x00000000012344F7 = .ok (.cmdRamYCounter 0x1234) ∧
    decodeRequest 0x00000000000013C7 = .ok (.cmdBorder 0x01) ∧
    decodeRequest 0x00000000000007F7 = .ok .cmdNop ∧
    decodeRequest 0x0000000000000012 = .error .reservedBits ∧
    decodeRequest 0x0000000000000247 = .error (.selector 0x24)) ∧
  (decodeFrame 0x01 [0xE0, 0x01, 0xA5] = .ok (.busDriverOutput 480 0xA5) ∧
    decodeFrame 0x03 [0x17] = .ok (.busGateVoltage 0x17) ∧
    decodeFrame 0x0C [1, 2, 3, 4, 5] = .ok (.busBooster 1 2 3 4 5) ∧
    decodeFrame 0x11 [0x03] = .ok (.busDataEntry 0x03) ∧ decodeFrame 0x12 [] = .ok .busSwReset ∧
    decodeFrame 0x18 [0x80] = .ok (.busTempSensor 0x80) ∧ decodeFrame 0x20 [] = .ok .busRefresh ∧
    decodeFrame 0x21 [0x12] = .ok (.busUpdateOpt1 0x12) ∧ decodeFrame 0x22 [0xB1] = .ok (.busUpdateOpt2 0xB1) ∧
    decodeFrame 0x24 [0x7F, 0xFE] = .ok (.busWriteBwRam [0x7F, 0xFE])) ∧
  (decodeFrame 0x26 [0x7F, 0xFE] = .ok (.busWriteRedRam [0x7F, 0xFE]) ∧
    decodeFrame 0x3C [0x01] = .ok (.busBorder 0x01) ∧
    decodeFrame 0x44 [0x05, 0x01, 0x1F, 0x03] = .ok (.busRamXWindow 261 799) ∧
    decodeFrame 0x45 [0x06, 0x02, 0xDF, 0x01] = .ok (.busRamYWindow 518 479) ∧
    decodeFrame 0x46 [0x66] = .ok (.busFillRed 0x66) ∧ decodeFrame 0x47 [0x66] = .ok (.busFillBw 0x66) ∧
    decodeFrame 0x4E [0x34, 0x12] = .ok (.busRamXCounter 0x1234) ∧
    decodeFrame 0x4F [0x34, 0x12] = .ok (.busRamYCounter 0x1234) ∧ decodeFrame 0x7F [] = .ok .busNop)

/-- 30_encoding.md section 7: every well-formed instruction is read back from its words, all operands. -/
def Obligations.DecodeEncodeAgree : Prop :=
  ∀ i : Instr, WellFormed i = true → decode (encode i) = .ok i

/-- 30_encoding.md R90, R93-R100, R109: a word that decodes is the word of its instruction, so no bit of it is ignored,
and OP, SEL and every operand are read from the bits the rules give them. -/
def Obligations.EncodeDecodeAgree : Prop :=
  ∀ (w : RequestWord) (i : Instr), decodeRequest w = .ok i → encode i = .request w ∧ operandsRead w i

/-- 30_encoding.md section 7: a word decodes exactly when it is the word of a row of the opcode table, and of
one row only. -/
def Obligations.DecodesExactlyTableRows : Prop :=
  ∀ w : RequestWord,
    ((∃ i, decodeRequest w = .ok i) ↔ ∃ r ∈ requestRows, w &&& r.mask = r.pattern) ∧
    requestRows.Pairwise (fun r q => ¬ (w &&& r.mask = r.pattern ∧ w &&& q.mask = q.pattern))

/-- 30_encoding.md R92: a word of no row of the table is rejected at acceptance with ILLEGAL and changes only
LAST_OP, ERR and STEP; words with a reserved OP, CMD words with any other SEL, and words with a row's OP (and SEL)
that set one of its reserved bits are such words. -/
def Obligations.IllegalWordRejected : Prop :=
  (∀ (s : State) (w : RequestWord) (rest : List RequestWord),
    s.ready = true → s.requests = w :: rest → (∀ r ∈ requestRows, w &&& r.mask ≠ r.pattern) →
    step s = .next { s with
      requests := rest, lastOp := w.extractLsb' 0 4, err := .illegal, stepCount := 0 }) ∧
  (∀ w : RequestWord, w.extractLsb' 0 4 = 0x0#4 ∨ 9 ≤ (w.extractLsb' 0 4).toNat →
    ∀ r ∈ requestRows, w &&& r.mask ≠ r.pattern) ∧
  (∀ w : RequestWord, w.extractLsb' 0 4 = 0x7#4 →
    w.extractLsb' 4 8 ∉ [0x01#8, 0x03#8, 0x0C#8, 0x11#8, 0x12#8, 0x18#8, 0x20#8, 0x21#8, 0x22#8, 0x3C#8,
      0x44#8, 0x45#8, 0x46#8, 0x47#8, 0x4E#8, 0x4F#8, 0x7F#8] →
    ∀ r ∈ requestRows, w &&& r.mask ≠ r.pattern) ∧
  (∀ (w : RequestWord), ∀ r ∈ requestRows, w &&& selectorBits r = r.pattern →
    w &&& (r.mask &&& ~~~ selectorBits r) ≠ 0 → ∀ q ∈ requestRows, w &&& q.mask ≠ q.pattern)

/-! ### The step -/

/-- 41_sequencer.md R165, R166: with READY = 1 the step runs the instruction the presented word decodes to, the
word taken from the queue. -/
def Obligations.StepRunsPresentedRequest : Prop :=
  ∀ (s : State) (w : RequestWord) (rest : List RequestWord) (i : Instr),
    s.ready = true → s.requests = w :: rest → decodeRequest w = .ok i →
    step s = exec i { s with requests := rest }

/-- 41_sequencer.md R167: with READY = 0 and SEQ at an operation of a frame, the step runs the instruction the
frame decodes to. -/
def Obligations.StepRunsFrameInProgress : Prop :=
  ∀ (s : State) (op : Byte) (data : List Byte) (i : Instr),
    s.ready = false → frameAt s.seq s.stepCount = some (op, data) → decodeFrame op data = .ok i →
    step s = exec i s

/-- 41_sequencer.md R165, 70_reset_and_hazards.md R281: while READY = 0 no request is taken and none is lost; with
READY = 1 a step takes the next one, and with none presented the block waits. -/
def Obligations.RequestsHeldWhileBusy : Prop :=
  (∀ s t : State, step s = .next t →
    (s.ready = false → t.requests = s.requests) ∧ (s.ready = true → t.requests = s.requests.tail)) ∧
  (∀ s : State, s.ready = true → s.requests = [] → step s = .next s)

/-! ### CONFIGURE, RESET, UPDATE -/

/-- 41_sequencer.md R171: an unconfigured block latches exactly the valid dimensions; any other is CONFIG. A
latched configuration refuses every CONFIGURE with STATE. -/
def Obligations.ConfigureLatchesValidDimensions : Prop :=
  ∀ (rows cols : BitVec 16) (rot : Rotation) (auto : Bool) (s : State),
    (s.cfgValid = false → dimsInRange rows cols →
      exec (.configure rows cols rot auto) s = .next { s with
        lastOp := 0x1, err := .none, stepCount := 0,
        rows := rows, cols := cols, rot := rot, autoUpdate := auto, cfgValid := true }) ∧
    (s.cfgValid = false → ¬ dimsInRange rows cols →
      exec (.configure rows cols rot auto) s =
        .next { s with lastOp := 0x1, err := .config, stepCount := 0 }) ∧
    (s.cfgValid = true →
      exec (.configure rows cols rot auto) s =
        .next { s with lastOp := 0x1, err := .state, stepCount := 0 })

/-- 41_sequencer.md R174, R175, R177: RESET starts its 23 operations, in order, byte for byte. -/
def Obligations.ResetStartsTwentyThreeOperations : Prop :=
  ∀ s : State, s.cfgValid = true →
    exec .reset s = .next { s with
      lastOp := 0x2, err := .none, stepCount := 0, ready := false,
      seqState := .hwReset, finalState := .initialized,
      seq :=
        [.resetPulse 10, .sendCmd 0x12, .busyWait,
         .sendCmd 0x47, .sendData [Config.fillPattern], .sendCmd 0x46, .sendData [Config.fillPattern],
         .sendCmd 0x01, .sendData [lo8 s.rows, hi8 s.rows, 0x00],
         .sendCmd 0x11, .sendData [0x03],
         .sendCmd 0x44, .sendData [0x00, 0x00, lo8 ((s.cols - 1) &&& 0x3FF), hi8 ((s.cols - 1) &&& 0x3FF)],
         .sendCmd 0x45, .sendData [0x00, 0x00, lo8 ((s.rows - 1) &&& 0x3FF), hi8 ((s.rows - 1) &&& 0x3FF)],
         .sendCmd 0x3C, .sendData [0x01], .sendCmd 0x18, .sendData [0x80],
         .sendCmd 0x22, .sendData [0xB1], .sendCmd 0x20, .busyWait] }

/-- 41_sequencer.md R176: the operations of RESET depend on the configuration only through `rows` and `cols`, and
only in the data of operations 9, 13 and 15 (counted from 1). -/
def Obligations.InitDependsOnDimensionsOnly : Prop :=
  ∀ s u t v : State, s.cfgValid = true → u.cfgValid = true →
    exec .reset s = .next t → exec .reset u = .next v →
    (∀ k, k ≠ 8 → k ≠ 12 → k ≠ 14 → t.seq[k]? = v.seq[k]?) ∧
    (s.rows = u.rows → s.cols = u.cols → t.seq = v.seq)

/-- 41_sequencer.md R180, R181: UPDATE starts the stream of each selected plane, B/W before red, the counters
reset before each, every byte as it is at acceptance, in ascending order; then the mode byte, the refresh
and its one busy-wait. -/
def Obligations.UpdateStartsStream : Prop :=
  ∀ (bw red : Bool) (mode : UpdateMode) (s : State), s.seqState = .initialized ∨ s.seqState = .drawing →
    exec (.update bw red mode) s = .next { s with
      lastOp := 0x3, err := .none, stepCount := 0, ready := false,
      seqState := .updating, finalState := .drawing,
      seq :=
        (if bw then [.sendCmd 0x4E, .sendData [0, 0], .sendCmd 0x4F, .sendData [0, 0]] ++
          frame 0x24 ((List.range s.fbLen).map (s.byteAt .bw)) else []) ++
        (if red then [.sendCmd 0x4E, .sendData [0, 0], .sendCmd 0x4F, .sendData [0, 0]] ++
          frame 0x26 ((List.range s.fbLen).map (s.byteAt .red)) else []) ++
        [.sendCmd 0x22, .sendData [if mode = .fast then 0xFF else 0xF7], .sendCmd 0x20, .busyWait] }

/-- 41_sequencer.md R174, R180: RESET needs CFG_VALID = 1, UPDATE needs INITIALIZED or DRAWING; otherwise each is
STATE and nothing else changes. -/
def Obligations.ResetAndUpdateRefused : Prop :=
  (∀ s : State, s.cfgValid = false →
    exec .reset s = .next { s with lastOp := 0x2, err := .state, stepCount := 0 }) ∧
  (∀ (bw red : Bool) (mode : UpdateMode) (s : State), s.seqState ≠ .initialized → s.seqState ≠ .drawing →
    exec (.update bw red mode) s = .next { s with lastOp := 0x3, err := .state, stepCount := 0 })

/-- 41_sequencer.md R178: the number of transport operations of each request. From a good state at rest, a
request that starts has exactly its number, never more than 23; one that has none completes at once. The
model's choice: SEQ is empty at rest (log 7; 10_state.md R56). -/
def Obligations.RequestOperationCounts : Prop :=
  ∀ (s t : State) (i : Instr) (w : RequestWord), s.Good → s.ready = true → encode i = .request w →
    exec i s = .next t →
    (t.ready = false → t.seq.length = operationCount i ∧ 1 ≤ operationCount i ∧ operationCount i ≤ 23) ∧
    (t.ready = true → t.seq = []) ∧ (operationCount i = 0 → t.ready = true)

/-! ### MAP, SET_PIXEL, CLEAR, PEEK -/

/-- 42_mapping.md R200, R202-R205: MAP writes the byte index and mask of the rotation's formula into RESULT. -/
def Obligations.MapWritesResult : Prop :=
  ∀ (x y : BitVec 16) (s : State), s.cfgValid = true →
    insideLogical s.rot s.cols.toNat s.rows.toNat x.toNat y.toNat →
    exec (.map x y) s = .next { s with
      lastOp := 0x6, err := .none, stepCount := 0,
      byteIndex := BitVec.ofNat 17 (rotationFormula s.rot s.cols.toNat s.rows.toNat x.toNat y.toNat).1,
      mask := (rotationFormula s.rot s.cols.toNat s.rows.toNat x.toNat y.toNat).2 }

/-- 42_mapping.md R200, R201; 43_framebuffer.md R230, R232, R234; 60_exceptions.md R252: before CONFIGURE the four
plane requests are STATE; after it, a coordinate outside the logical size, or a PEEK index of FB_LEN or
more, is BOUNDS. Nothing else changes. -/
def Obligations.PlaneRequestsRefused : Prop :=
  (∀ s : State, s.cfgValid = false →
    (∀ x y, exec (.map x y) s = .next { s with lastOp := 0x6, err := .state, stepCount := 0 }) ∧
    (∀ p on x y, exec (.setPixel p on x y) s = .next { s with lastOp := 0x4, err := .state, stepCount := 0 }) ∧
    (∀ p dark, exec (.clear p dark) s = .next { s with lastOp := 0x5, err := .state, stepCount := 0 }) ∧
    (∀ p index, exec (.peek p index) s = .next { s with lastOp := 0x8, err := .state, stepCount := 0 })) ∧
  (∀ (s : State) (x y : BitVec 16), s.cfgValid = true →
    ¬ insideLogical s.rot s.cols.toNat s.rows.toNat x.toNat y.toNat →
    exec (.map x y) s = .next { s with lastOp := 0x6, err := .bounds, stepCount := 0 } ∧
    (∀ p on, exec (.setPixel p on x y) s =
      .next { s with lastOp := 0x4, err := .bounds, stepCount := 0 })) ∧
  (∀ (s : State) (p : Plane) (index : BitVec 17), s.cfgValid = true →
    s.rows.toNat * s.cols.toNat / 8 ≤ index.toNat →
    exec (.peek p index) s = .next { s with lastOp := 0x8, err := .bounds, stepCount := 0 })

/-- 43_framebuffer.md R230: SET_PIXEL clears ("on") or sets ("off") the mapped bit of the mapped byte, and moves
INITIALIZED to DRAWING; every other byte of both planes, and all other state, is as before. -/
def Obligations.SetPixelWritesOneBit : Prop :=
  ∀ (p : Plane) (on : Bool) (x y : BitVec 16) (s : State), s.cfgValid = true → dimsInRange s.rows s.cols →
    insideLogical s.rot s.cols.toNat s.rows.toNat x.toNat y.toNat →
    ∃ t, exec (.setPixel p on x y) s = .next t ∧
      t.byteAt p (s.mapAt x y).1 =
        (if on then s.byteAt p (s.mapAt x y).1 &&& ~~~ (s.mapAt x y).2
          else s.byteAt p (s.mapAt x y).1 ||| (s.mapAt x y).2) ∧
      (∀ q a, q ≠ p ∨ a ≠ (s.mapAt x y).1 → t.byteAt q a = s.byteAt q a) ∧
      ({ t with bw := s.bw, red := s.red } : State) = { s with
        lastOp := 0x4, err := .none, stepCount := 0,
        seqState := if s.seqState = .initialized then .drawing else s.seqState }

/-- 20_memory.md R70, log 8 (the model's choice, in states no run reaches): where the latched dimensions give an
in-bounds pixel an index of FB_LEN or more, SET_PIXEL faults. -/
def Obligations.SetPixelFaultsOutsidePlane : Prop :=
  ∀ (p : Plane) (on : Bool) (x y : BitVec 16) (s : State), s.cfgValid = true →
    insideLogical s.rot s.cols.toNat s.rows.toNat x.toNat y.toNat → s.fbLen ≤ (s.mapAt x y).1 →
    exec (.setPixel p on x y) s = .fault .planeIndex

/-- 43_framebuffer.md R232: CLEAR writes 0x00 or 0xFF to every byte of the plane, 0 to FB_LEN-1, and moves
INITIALIZED to DRAWING; the other plane, and all other state, is as before. -/
def Obligations.ClearFillsOnePlane : Prop :=
  ∀ (p : Plane) (dark : Bool) (s : State), s.cfgValid = true →
    ∃ t, exec (.clear p dark) s = .next t ∧
      (∀ a, a < s.rows.toNat * s.cols.toNat / 8 → t.byteAt p a = if dark then 0x00 else 0xFF) ∧
      (∀ q a, q ≠ p ∨ s.rows.toNat * s.cols.toNat / 8 ≤ a → t.byteAt q a = s.byteAt q a) ∧
      ({ t with bw := s.bw, red := s.red } : State) = { s with
        lastOp := 0x5, err := .none, stepCount := 0,
        seqState := if s.seqState = .initialized then .drawing else s.seqState }

/-- 43_framebuffer.md R232: the fill is the writes of its bytes one after another, 0 to FB_LEN-1. -/
def Obligations.FillIsWritesInOrder : Prop :=
  ∀ (n : Nat) (v : Byte) (m : Memory), Memory.wf m →
    planeFill n v m = (List.range n).foldl (fun k a => planeWrite a v k) m

/-- 43_framebuffer.md R234: PEEK copies one plane byte into DATA and changes nothing else. -/
def Obligations.PeekReadsOneByte : Prop :=
  ∀ (p : Plane) (index : BitVec 17) (s : State), s.cfgValid = true →
    index.toNat < s.rows.toNat * s.cols.toNat / 8 →
    exec (.peek p index) s = .next { s with
      lastOp := 0x8, err := .none, stepCount := 0, data := s.byteAt p index.toNat }

/-- 42_mapping.md R206: the mapper is the native placement (20_memory.md R74) of the native pixel, and the native
pixel is a bijection from the logical rectangle onto the native one. -/
def Obligations.MapperIsNativePlacement : Prop :=
  ∀ (rot : Rotation) (W H : Nat), W % 8 = 0 →
    (∀ x y, insideLogical rot W H x y →
      (nativePixel rot W H x y).1 < W ∧ (nativePixel rot W H x y).2 < H ∧
      mapPixel rot W H x y =
        ((nativePixel rot W H x y).1 / 8 + W / 8 * (nativePixel rot W H x y).2,
         0x80#8 >>> ((nativePixel rot W H x y).1 % 8))) ∧
    (∀ x y x' y', insideLogical rot W H x y → insideLogical rot W H x' y' →
      nativePixel rot W H x y = nativePixel rot W H x' y' → x = x' ∧ y = y') ∧
    (∀ c r, c < W → r < H → ∃ x y, insideLogical rot W H x y ∧ nativePixel rot W H x y = (c, r))

/-- 42_mapping.md R207: every in-bounds coordinate maps below FB_LEN with exactly one bit set; the largest index
of any configuration is 81599, which needs 17 bits. -/
def Obligations.MapperStaysInPlane : Prop :=
  ∀ (rot : Rotation) (rows cols : BitVec 16) (x y : Nat), dimsInRange rows cols →
    insideLogical rot cols.toNat rows.toNat x y →
    (mapPixel rot cols.toNat rows.toNat x y).1 < cols.toNat * rows.toNat / 8 ∧
    oneHot (mapPixel rot cols.toNat rows.toNat x y).2 = true ∧
    cols.toNat * rows.toNat / 8 - 1 ≤ 81599 ∧ 2 ^ 16 ≤ 81599 ∧ 81599 < 2 ^ 17

/-- 42_mapping.md R208: for each rotation the mapper is a bijection from the in-bounds coordinates onto the bits
of the plane. -/
def Obligations.MapperIsBijection : Prop :=
  ∀ (rot : Rotation) (W H : Nat), W % 8 = 0 →
    (∀ x y x' y', insideLogical rot W H x y → insideLogical rot W H x' y' →
      mapPixel rot W H x y = mapPixel rot W H x' y' → x = x' ∧ y = y') ∧
    (∀ i m, i < W * H / 8 → oneHot m = true →
      ∃ x y, insideLogical rot W H x y ∧ mapPixel rot W H x y = (i, m))

/-! ### CMD -/

/-- 40_command_layer.md R121-R142: in INITIALIZED or DRAWING each CMD form starts its frame, byte for byte, with one
busy-wait after 0x12 and 0x20; it ends in the state it found, and in SW_RESET after 0x12. -/
def Obligations.CmdStartsItsFrame : Prop :=
  ∀ s : State, s.seqState = .initialized ∨ s.seqState = .drawing →
    (∀ g c, startsCmd (.cmdDriverOutput g c) s [.sendCmd 0x01, .sendData [lo8 g, hi8 g, c]] s.seqState) ∧
    (∀ v, startsCmd (.cmdGateVoltage v) s [.sendCmd 0x03, .sendData [gateVoltageCode v]] s.seqState) ∧
    (∀ v, startsCmd (.cmdBooster v) s [.sendCmd 0x0C, .sendData [Config.boostFixed 0, Config.boostFixed 1,
      Config.boostFixed 2, Config.boostFixed 3, v]] s.seqState) ∧
    (∀ e, startsCmd (.cmdTempSensor e) s [.sendCmd 0x18, .sendData [if e then 0x30 else 0x80]] s.seqState) ∧
    startsCmd .cmdSwReset s [.sendCmd 0x12, .busyWait] .swReset ∧
    (∀ v, startsCmd (.cmdDataEntry v) s [.sendCmd 0x11, .sendData [v]] s.seqState) ∧
    startsCmd .cmdRefresh s [.sendCmd 0x20, .busyWait] s.seqState ∧
    (∀ v, startsCmd (.cmdUpdateOpt1 v) s [.sendCmd 0x21, .sendData [v]] s.seqState) ∧
    (∀ v, startsCmd (.cmdUpdateOpt2 v) s [.sendCmd 0x22, .sendData [v]] s.seqState) ∧
    (∀ a e, startsCmd (.cmdRamXWindow a e) s [.sendCmd 0x44, .sendData [lo8 (a.setWidth 16), hi8 (a.setWidth 16),
      lo8 (e &&& 0x3FF), hi8 (e &&& 0x3FF)]] s.seqState) ∧
    (∀ a e, startsCmd (.cmdRamYWindow a e) s [.sendCmd 0x45, .sendData [lo8 (a.setWidth 16), hi8 (a.setWidth 16),
      lo8 (e &&& 0x3FF), hi8 (e &&& 0x3FF)]] s.seqState) ∧
    (∀ v, startsCmd (.cmdFillBw v) s [.sendCmd 0x47, .sendData [v]] s.seqState) ∧
    (∀ v, startsCmd (.cmdFillRed v) s [.sendCmd 0x46, .sendData [v]] s.seqState) ∧
    (∀ v, startsCmd (.cmdRamXCounter v) s [.sendCmd 0x4E, .sendData [lo8 v, hi8 v]] s.seqState) ∧
    (∀ v, startsCmd (.cmdRamYCounter v) s [.sendCmd 0x4F, .sendData [lo8 v, hi8 v]] s.seqState) ∧
    (∀ v, startsCmd (.cmdBorder v) s [.sendCmd 0x3C, .sendData [v]] s.seqState) ∧
    startsCmd .cmdNop s [.sendCmd 0x7F] s.seqState

/-- 40_command_layer.md R121: in every other state each of the 17 CMD forms is STATE, and nothing else changes. -/
def Obligations.CmdRefusedElsewhere : Prop :=
  ∀ (i : Instr) (s : State), isCmd i = true → s.seqState ≠ .initialized → s.seqState ≠ .drawing →
    exec i s = .next { s with lastOp := 0x7, err := .state, stepCount := 0 }

/-- 40_command_layer.md R124: inside 12.0 to 20.0 V the quantiser answers the code of step (vdv - 120 + 2) / 5, which
is at most 0.2 V away while every other step is at least 0.3 V away; outside, the power-on-reset code. No
voltage makes cmd.gate_voltage raise an error. -/
def Obligations.GateVoltageTakesNearestStep : Prop :=
  (∀ v : Byte,
    (120 ≤ v.toNat ∧ v.toNat ≤ 200 → ∃ k : Fin 17, k.val = (v.toNat - 120 + 2) / 5 ∧
      gateVoltageCode v = Config.gateCode k ∧
      ((v.toNat : Int) - (120 + 5 * k.val)).natAbs ≤ 2 ∧
      ∀ j : Fin 17, j ≠ k → 3 ≤ ((v.toNat : Int) - (120 + 5 * j.val)).natAbs) ∧
    (v.toNat < 120 ∨ 200 < v.toNat → gateVoltageCode v = Config.gatePorCode)) ∧
  (∀ (v : Byte) (s : State), s.seqState = .initialized ∨ s.seqState = .drawing →
    ∃ t, exec (.cmdGateVoltage v) s = .next t ∧ t.err = .none ∧
      t.seq = [.sendCmd 0x03, .sendData [gateVoltageCode v]])

/-- 40_command_layer.md R133, 20_memory.md R75: the window commands send the start whole and the low ten bits of the
end; the counters and the gate count are sent whole. Each value goes out low byte first. -/
def Obligations.WindowEndKeepsTenBits : Prop :=
  (∀ (a : BitVec 10) (e : BitVec 16), ∃ b0 b1 b2 b3 : Byte,
    frameRamXWindow a e = [.sendCmd 0x44, .sendData [b0, b1, b2, b3]] ∧
    frameRamYWindow a e = [.sendCmd 0x45, .sendData [b0, b1, b2, b3]] ∧
    b0.toNat + 256 * b1.toNat = a.toNat ∧ b2.toNat + 256 * b3.toNat = e.toNat % 1024) ∧
  (∀ v : BitVec 16, ∃ b0 b1 : Byte,
    frameRamXCounter v = [.sendCmd 0x4E, .sendData [b0, b1]] ∧
    frameRamYCounter v = [.sendCmd 0x4F, .sendData [b0, b1]] ∧
    (∀ c, frameDriverOutput v c = [.sendCmd 0x01, .sendData [b0, b1, c]]) ∧
    b0.toNat + 256 * b1.toNat = v.toNat)

/-! ### Bus frames and transport operations -/

/-- 40_command_layer.md R122-R142, 41_sequencer.md R160: each of the 19 bus frames sends its command byte. -/
def Obligations.FrameSendsCommandByte : Prop :=
  (∀ g c, sendsCommand (.busDriverOutput g c) 0x01) ∧ (∀ c, sendsCommand (.busGateVoltage c) 0x03) ∧
  (∀ a b c d v, sendsCommand (.busBooster a b c d v) 0x0C) ∧ (∀ v, sendsCommand (.busTempSensor v) 0x18) ∧
  sendsCommand .busSwReset 0x12 ∧ (∀ v, sendsCommand (.busDataEntry v) 0x11) ∧
  sendsCommand .busRefresh 0x20 ∧ (∀ v, sendsCommand (.busUpdateOpt1 v) 0x21) ∧
  (∀ v, sendsCommand (.busUpdateOpt2 v) 0x22) ∧ (∀ a e, sendsCommand (.busRamXWindow a e) 0x44) ∧
  (∀ a e, sendsCommand (.busRamYWindow a e) 0x45) ∧ (∀ v, sendsCommand (.busRamXCounter v) 0x4E) ∧
  (∀ v, sendsCommand (.busRamYCounter v) 0x4F) ∧ (∀ v, sendsCommand (.busFillBw v) 0x47) ∧
  (∀ v, sendsCommand (.busFillRed v) 0x46) ∧ (∀ l, sendsCommand (.busWriteBwRam l) 0x24) ∧
  (∀ l, sendsCommand (.busWriteRedRam l) 0x26) ∧ (∀ v, sendsCommand (.busBorder v) 0x3C) ∧
  sendsCommand .busNop 0x7F

/-- 40_command_layer.md R122-R141, 41_sequencer.md R161: each bus frame with data sends its data bytes, in order, a
16-bit value low byte first. -/
def Obligations.FrameSendsDataBytes : Prop :=
  (∀ g c, sendsData (.busDriverOutput g c) [lo8 g, hi8 g, c]) ∧ (∀ c, sendsData (.busGateVoltage c) [c]) ∧
  (∀ a b c d v, sendsData (.busBooster a b c d v) [a, b, c, d, v]) ∧
  (∀ v, sendsData (.busTempSensor v) [v]) ∧ (∀ v, sendsData (.busDataEntry v) [v]) ∧
  (∀ v, sendsData (.busUpdateOpt1 v) [v]) ∧ (∀ v, sendsData (.busUpdateOpt2 v) [v]) ∧
  (∀ a e, sendsData (.busRamXWindow a e)
    [lo8 (a.setWidth 16), hi8 (a.setWidth 16), lo8 (e.setWidth 16), hi8 (e.setWidth 16)]) ∧
  (∀ a e, sendsData (.busRamYWindow a e)
    [lo8 (a.setWidth 16), hi8 (a.setWidth 16), lo8 (e.setWidth 16), hi8 (e.setWidth 16)]) ∧
  (∀ v, sendsData (.busRamXCounter v) [lo8 v, hi8 v]) ∧ (∀ v, sendsData (.busRamYCounter v) [lo8 v, hi8 v]) ∧
  (∀ v, sendsData (.busFillBw v) [v]) ∧ (∀ v, sendsData (.busFillRed v) [v]) ∧
  (∀ l, l ≠ [] → sendsData (.busWriteBwRam l) l) ∧ (∀ l, l ≠ [] → sendsData (.busWriteRedRam l) l) ∧
  (∀ v, sendsData (.busBorder v) [v])

/-- 20_memory.md R79: a data list goes out as ceil(|list| / MAX_XFER) transfers, each of MAX_XFER bytes but
possibly the last, in the list's order; joined they are the list, and the trace shows no boundary. -/
def Obligations.TransfersSplitData : Prop :=
  ∀ (n : Nat) (l : List Byte), 1 ≤ n →
    (transfers n l).length = (l.length + n - 1) / n ∧
    (∀ t ∈ transfers n l, 1 ≤ t.length ∧ t.length ≤ n) ∧
    (∀ t ∈ (transfers n l).dropLast, t.length = n) ∧
    (transfers n l).flatten = l ∧
    (TransportOp.sendData l).events = l.map Event.data

/-- 41_sequencer.md R160-R162, R167; 10_state.md R53: the operation due, answered Ok, emits its events in order with
the pins following them, and `step` counts it. The last one completes the request; any other leaves it in
progress, SEQ unchanged. -/
def Obligations.OperationSucceeds : Prop :=
  ∀ (s : State) (op : TransportOp) (rest : List Config.OpAnswer), due s op → op ≠ .busyWait →
    s.opScript = .ok :: rest →
    ∃ t, step s = .next t ∧ t.trace = s.trace ++ wireEvents op ∧
      t.dc = (match op with | .sendCmd _ => false | .sendData _ => true | _ => s.dc) ∧
      t.rstN = (match op with | .resetPulse _ => true | _ => s.rstN) ∧
      t.stepCount = s.stepCount + 1 ∧ t.err = s.err ∧ t.opScript = rest ∧ sameStore s t ∧
      (s.stepCount + 1 = s.seq.length → t.ready = true ∧ t.seqState = s.finalState) ∧
      (s.stepCount + 1 ≠ s.seq.length → t.ready = false ∧ t.seq = s.seq ∧ t.finalState = s.finalState ∧
        (s.lastOp ≠ 0x2 → t.seqState = s.seqState))

/-- 41_sequencer.md R160-R162, R164; 60_exceptions.md R255: the operation due, answered Err, leaves a prefix of its
events on the wire, the pins following the last one emitted (a SendData that emitted nothing leaves DC at
either level), and ends the request: ERR = TRANSPORT, STATE = INDETERMINATE, READY = 1, `step` unchanged. -/
def Obligations.TransportErrorEndsRequest : Prop :=
  ∀ (s : State) (op : TransportOp) (k : Nat) (d : Bool) (rest : List Config.OpAnswer), due s op →
    op ≠ .busyWait → s.opScript = .err k d :: rest →
    ∃ t, step s = .next t ∧ t.trace = s.trace ++ (wireEvents op).take k ∧
      t.dc = (match op with
        | .sendCmd _ => if k = 0 then s.dc else false
        | .sendData _ => if k = 0 then d else true
        | _ => s.dc) ∧
      t.rstN = (match op with
        | .resetPulse _ => if k = 0 then s.rstN else decide (3 ≤ k)
        | _ => s.rstN) ∧
      t.err = .transport ∧ t.seqState = .indeterminate ∧ t.ready = true ∧ t.stepCount = s.stepCount ∧
      t.opScript = rest ∧ sameStore s t

/-- 00_scope.md R7, log 2 (the model's choice): where no answer is scripted, the operation due acts on the free answer
that `draws` indexes as on a scripted one, and counts the draw. So what holds of every script holds of every
environment. -/
def Obligations.FreeAnswersActAsScript : Prop :=
  (∀ (s : State) (op : TransportOp), due s op → op ≠ .busyWait → s.opScript = [] →
    ∃ u, step { s with opScript := [Config.opAnswer s.draws] } = .next u ∧
      step s = .next { u with draws := s.draws + 1 }) ∧
  (∀ s : State, due s .busyWait → s.pollScript = [] →
    ∃ u, step { s with pollScript := [Config.pollAnswer s.draws] } = .next u ∧
      step s = .next { u with draws := s.draws + 1 })

/-- 41_sequencer.md R163: one poll of a busy-wait. Ready emits WaitReady and the operation succeeds; Err is
TRANSPORT; Busy counts the poll, and is TIMEOUT when the count reaches BUSY_MAX_POLLS. A failed wait emits
nothing. The model's choice: SEQ is empty after the failure (log 7; 10_state.md R56, "a model may drop it"). -/
def Obligations.BusyWaitPolls : Prop :=
  ∀ (s : State) (rest : List Config.PollAnswer), s.ready = false →
    s.seq[s.stepCount]? = some .busyWait →
    (s.pollScript = .level false :: rest →
      step s = .next ({ s with pollScript := rest, trace := s.trace ++ [.waitReady] } : State).advance) ∧
    (s.pollScript = .err :: rest →
      step s = .next { s with
        pollScript := rest, err := .transport, seqState := .indeterminate, ready := true, seq := [] }) ∧
    (s.pollScript = .level true :: rest → s.busyMaxPolls ≠ some (s.polls + 1) →
      step s = .next { s with pollScript := rest, polls := s.polls + 1 }) ∧
    (s.pollScript = .level true :: rest → s.busyMaxPolls = some (s.polls + 1) →
      step s = .next { s with
        pollScript := rest, polls := s.polls + 1, err := .timeout, seqState := .indeterminate,
        ready := true, seq := [] })

/-- 10_state.md R57, 41_sequencer.md R167, R179: what advancing does after an operation succeeds: during RESET the
STATE becomes SW_RESET after operation 1 and INITIALIZING after operation 3; after the last operation STATE is
`final_state` and READY is 1. The model's choices: `polls` becomes 0 in the step that completes the operation
before a BusyWait (log 9, DEDUCED: R57 names no step), and SEQ is empty after the last operation (log 7;
10_state.md R56, "a model may drop it"). -/
def Obligations.AdvanceFollowsSequence : Prop :=
  ∀ s : State,
    (s.stepCount + 1 < s.seq.length → s.advance = { s with
      stepCount := s.stepCount + 1,
      seqState :=
        if s.lastOp = 0x2 ∧ s.stepCount = 0 then .swReset
        else if s.lastOp = 0x2 ∧ s.stepCount = 2 then .initializing else s.seqState,
      polls := if s.seq[s.stepCount + 1]? = some .busyWait then 0 else s.polls }) ∧
    (s.seq.length ≤ s.stepCount + 1 → s.advance = { s with
      stepCount := s.stepCount + 1, seqState := s.finalState, ready := true, seq := [] })

/-- 70_reset_and_hazards.md R294: with no bound, a busy line that stays busy keeps the block in its busy-wait: any
number of busy polls changes nothing but the poll count. -/
def Obligations.BusyLineHoldsBlock : Prop :=
  ∀ (n : Nat) (s : State) (rest : List Config.PollAnswer), s.ready = false →
    s.seq[s.stepCount]? = some .busyWait → s.busyMaxPolls = none → s.pollScript = busyPolls n ++ rest →
    Sys2Proof.core.run n s = .next { s with polls := s.polls + n, pollScript := rest }

/-- 00_scope.md R24, 41_sequencer.md R163: with a bound of `n`, a busy-wait that sees `n` busy polls in a row ends in
TIMEOUT, after exactly `n` polls and not before. The model's choice: SEQ is empty after it (log 7; 10_state.md
R56, "a model may drop it"). -/
def Obligations.BoundedWaitTimesOut : Prop :=
  ∀ (n : Nat) (s : State) (rest : List Config.PollAnswer), 1 ≤ n → s.ready = false →
    s.seq[s.stepCount]? = some .busyWait → s.busyMaxPolls = some n → s.polls = 0 →
    s.pollScript = busyPolls n ++ rest →
    (∀ k, k < n → ∃ t, Sys2Proof.core.run k s = .next t ∧ t.ready = false ∧ t.polls = k) ∧
    Sys2Proof.core.run n s = .next { s with
      polls := n, pollScript := rest, err := .timeout, seqState := .indeterminate, ready := true, seq := [] }

/-- 20_memory.md R77, 41_sequencer.md R167, 70_reset_and_hazards.md R301: a request in progress whose operations are
all answered Ok, its busy-waits Ready at the first poll, performs the rest of SEQ strictly in order, one
operation a step, and completes in `final_state` with ERR = NONE. -/
def Obligations.SequenceRunsInOrder : Prop :=
  ∀ (s : State) (rest : List Config.OpAnswer) (more : List Config.PollAnswer), s.ready = false →
    s.err = .none → s.stepCount < s.seq.length → (∀ k < s.seq.length, opRuns s.seq k = true) →
    s.opScript = List.replicate ((s.seq.drop s.stepCount).countP (fun op => op ≠ .busyWait)) .ok ++ rest →
    s.pollScript = List.replicate ((s.seq.drop s.stepCount).countP (fun op => op = .busyWait)) (.level false) ++ more →
    ∃ t, Sys2Proof.core.run (s.seq.length - s.stepCount) s = .next t ∧
      t.ready = true ∧ t.seqState = s.finalState ∧ t.err = .none ∧ t.stepCount = s.seq.length ∧
      t.trace = s.trace ++ ((s.seq.drop s.stepCount).map wireEvents).flatten ∧
      t.opScript = rest ∧ t.pollScript = more ∧ sameStore s t

/-- 41_sequencer.md R174, R179; 70_reset_and_hazards.md R285, R301: an accepted RESET whose operations are answered Ok,
and whose two busy-waits see `b1` and `b2` busy polls before Ready, completes in 21 + (b1+1) + (b2+1) steps with
STATE = INITIALIZED, STEP = 23 and the 34 events of its 23 operations in the trace. -/
def Obligations.ResetCompletesInitialized : Prop :=
  ∀ (s t : State) (b1 b2 : Nat) (rest : List Config.OpAnswer) (more : List Config.PollAnswer),
    s.cfgValid = true → s.busyMaxPolls = none → s.opScript = List.replicate 21 .ok ++ rest →
    s.pollScript = busyPolls b1 ++ .level false :: (busyPolls b2 ++ .level false :: more) →
    exec .reset s = .next t →
    ∃ u, Sys2Proof.core.run (21 + (b1 + 1) + (b2 + 1)) t = .next u ∧
      u.ready = true ∧ u.seqState = .initialized ∧ u.err = .none ∧ u.stepCount = 23 ∧ u.rstN = true ∧
      u.trace = s.trace ++ (t.seq.map wireEvents).flatten ∧ ((t.seq.map wireEvents).flatten).length = 34 ∧
      u.bw = s.bw ∧ u.red = s.red ∧ u.opScript = rest ∧ u.pollScript = more

/-! ### Registers -/

/-- 10_state.md R41, R44; 60_exceptions.md R250: the fields of STATUS, its reserved bits, its value after block reset, the
nine STATE codes and the seven ERR codes. -/
def Obligations.StatusRegisterFields : Prop :=
  (∀ s : State,
    (s.readReg 0).getLsbD 0 = s.ready ∧ (s.readReg 0).getLsbD 1 = s.cfgValid ∧
    (s.readReg 0).extractLsb' 2 2 = 0 ∧ (s.readReg 0).extractLsb' 4 4 = s.seqState.code ∧
    (s.readReg 0).extractLsb' 8 4 = s.err.code ∧
    (s.readReg 0).extractLsb' 12 8 = BitVec.ofNat 8 s.stepCount ∧
    (s.readReg 0).extractLsb' 20 4 = s.lastOp ∧ (s.readReg 0).extractLsb' 24 8 = 0) ∧
  State.reset.readReg 0 = 0x00000001 ∧
  (SeqState.unreset.code = 0 ∧ SeqState.hwReset.code = 1 ∧ SeqState.swReset.code = 2 ∧
    SeqState.initializing.code = 3 ∧ SeqState.initialized.code = 4 ∧ SeqState.drawing.code = 5 ∧
    SeqState.updating.code = 6 ∧ SeqState.indeterminate.code = 7 ∧ SeqState.deepSleep.code = 8) ∧
  (ErrCode.none.code = 0 ∧ ErrCode.illegal.code = 1 ∧ ErrCode.state.code = 2 ∧ ErrCode.config.code = 3 ∧
    ErrCode.bounds.code = 4 ∧ ErrCode.transport.code = 5 ∧ ErrCode.timeout.code = 6)

/-- 10_state.md R49, R50, R55: the fields of CFG_DIMS and CFG_MODE, 0 after block reset; a successful CONFIGURE writes
them and nothing else does. CFG_MODE[31:3] and registers 7 to 15 read 0. The four ROT codes. -/
def Obligations.ConfigurationRegisterFields : Prop :=
  (∀ s : State,
    (s.readReg 2).extractLsb' 0 16 = s.rows ∧ (s.readReg 2).extractLsb' 16 16 = s.cols ∧
    (s.readReg 3).extractLsb' 0 2 = s.rot.bits ∧ (s.readReg 3).getLsbD 2 = s.autoUpdate ∧
    (s.readReg 3).extractLsb' 3 29 = 0 ∧ (∀ n : BitVec 4, 7 ≤ n.toNat → s.readReg n = 0)) ∧
  (Rotation.deg0.bits = 0 ∧ Rotation.deg90.bits = 1 ∧ Rotation.deg180.bits = 2 ∧ Rotation.deg270.bits = 3) ∧
  State.reset.readReg 2 = 0 ∧ State.reset.readReg 3 = 0 ∧
  (∀ (s t : State) (w : RequestWord) (rest : List RequestWord) (rows cols : BitVec 16) (rot : Rotation) (auto : Bool),
    s.ready = true → s.requests = w :: rest → decodeRequest w = .ok (.configure rows cols rot auto) →
    step s = .next t → t.err = .none →
    t.readReg 2 = cols ++ rows ∧ t.readReg 3 = 0#29 ++ BitVec.ofBool auto ++ rot.bits) ∧
  (∀ s t : State, step s = .next t → s.readReg 2 ≠ t.readReg 2 ∨ s.readReg 3 ≠ t.readReg 3 →
    ∃ w rest rows cols rot auto, s.ready = true ∧ s.requests = w :: rest ∧
      decodeRequest w = .ok (.configure rows cols rot auto) ∧ t.err = .none)

/-- 10_state.md R51, R52: LSIZE and FBLEN are 0 while CFG_VALID = 0; then LSIZE is the size, swapped for 90 and 270
degrees, and FBLEN is rows · cols / 8, exactly. -/
def Obligations.SizeRegistersFollowConfiguration : Prop :=
  ∀ s : State,
    (s.cfgValid = false → s.readReg 4 = 0 ∧ s.readReg 5 = 0) ∧
    (s.cfgValid = true →
      (s.readReg 4).extractLsb' 0 16 = (if s.rot = .deg0 ∨ s.rot = .deg180 then s.cols else s.rows) ∧
      (s.readReg 4).extractLsb' 16 16 = (if s.rot = .deg0 ∨ s.rot = .deg180 then s.rows else s.cols) ∧
      (s.readReg 5).extractLsb' 0 17 = BitVec.ofNat 17 (s.rows.toNat * s.cols.toNat / 8)) ∧
    (s.readReg 5).extractLsb' 17 15 = 0 ∧
    (s.cfgValid = true → dimsInRange s.rows s.cols →
      (s.readReg 5).toNat * 8 = s.rows.toNat * s.cols.toNat ∧ (s.readReg 5).toNat ≤ 81600)

/-- 70_reset_and_hazards.md R280: what block reset leaves, every value the spec gives. (The level of DC and the bytes of
the planes are unspecified; no clause is about them.) -/
def Obligations.BlockResetValues : Prop :=
  State.reset.readReg 0 = 1 ∧ (∀ n : BitVec 4, n ≠ 0 → State.reset.readReg n = 0) ∧
  State.reset.ready = true ∧ State.reset.cfgValid = false ∧ State.reset.seqState = .unreset ∧
  State.reset.err = .none ∧ State.reset.stepCount = 0 ∧ State.reset.lastOp = 0 ∧ State.reset.seq = [] ∧
  State.reset.polls = 0 ∧ State.reset.finalState = .unreset ∧ State.reset.rstN = true ∧ State.reset.trace = []

/-! ### Invariants -/

/-- Every step keeps the storage invariant: canonical planes inside FB_LEN, a valid or zero configuration, RESULT
zero or one bit of the plane. -/
def Obligations.StepKeepsStorage : Prop :=
  ∀ s t : State, s.StorageOk → step s = .next t → t.StorageOk

/-- Every step keeps a good state good: storage and sequencer together. That SEQ is empty at rest is the model's choice
(log 7). -/
def Obligations.StepKeepsGoodState : Prop :=
  ∀ s t : State, s.Good → step s = .next t → t.Good

/-- The state after block reset is good, and its trace holds no command byte that is no bus opcode. -/
def Obligations.BlockResetIsGood : Prop := State.reset.Good ∧ State.reset.TraceOk

/-- In a good state the step never stops: no request, and no answer of the environment, ends a run. -/
def Obligations.GoodStateGoesOn : Prop := ∀ s : State, s.Good → ∃ t, step s = .next t

/-- 40_command_layer.md R144: the block emits no command byte other than the 19 bus opcodes: none is in the trace
after block reset, and no step emits one. -/
def Obligations.TraceHoldsBusOpcodesOnly : Prop :=
  State.reset.TraceOk ∧ ∀ s t : State, s.TraceOk → step s = .next t → t.TraceOk

/-! ### What only some requests do -/

/-- 10_state.md R43: CFG_VALID is 0 after block reset, becomes 1 only through a successful CONFIGURE, and no step
writes it back; a latched configuration never changes. -/
def Obligations.ConfigurationLatchedOnce : Prop :=
  State.reset.cfgValid = false ∧
  ∀ s t : State, step s = .next t →
    (s.cfgValid = true → t.cfgValid = true ∧ t.rows = s.rows ∧ t.cols = s.cols ∧ t.rot = s.rot ∧
      t.autoUpdate = s.autoUpdate) ∧
    (s.cfgValid = false → t.cfgValid = true → ∃ w rest rows cols rot auto,
      s.ready = true ∧ s.requests = w :: rest ∧ decodeRequest w = .ok (.configure rows cols rot auto) ∧
      dimsInRange rows cols ∧ t.rows = rows ∧ t.cols = cols ∧ t.rot = rot ∧ t.autoUpdate = auto)

/-- 10_state.md R48: the fields of RESULT, 0 after block reset; only a successful MAP writes them. -/
def Obligations.OnlyMapWritesResult : Prop :=
  (∀ s : State, (s.readReg 1).extractLsb' 0 17 = s.byteIndex ∧ (s.readReg 1).extractLsb' 17 7 = 0 ∧
    (s.readReg 1).extractLsb' 24 8 = s.mask) ∧ State.reset.readReg 1 = 0 ∧
  ∀ s t : State, step s = .next t → s.readReg 1 ≠ t.readReg 1 →
    ∃ w rest x y, s.ready = true ∧ s.requests = w :: rest ∧ decodeRequest w = .ok (.map x y) ∧ t.err = .none

/-- 10_state.md R54: DATA holds the byte of the last successful PEEK in bits [7:0], 0 above and after block reset; no
other request writes it. -/
def Obligations.OnlyPeekWritesData : Prop :=
  (∀ s : State, (s.readReg 6).extractLsb' 0 8 = s.data ∧ (s.readReg 6).extractLsb' 8 24 = 0) ∧
  State.reset.readReg 6 = 0 ∧
  (∀ s t : State, step s = .next t → s.readReg 6 ≠ t.readReg 6 →
    ∃ w rest p index, s.ready = true ∧ s.requests = w :: rest ∧ decodeRequest w = .ok (.peek p index) ∧
      t.err = .none) ∧
  (∀ (s t : State) (w : RequestWord) (rest : List RequestWord) (p : Plane) (index : BitVec 17),
    s.ready = true → s.requests = w :: rest → decodeRequest w = .ok (.peek p index) → step s = .next t →
    t.err = .none → (t.readReg 6).toNat = (s.byteAt p index.toNat).toNat)

/-- 10_state.md R60: only an accepted SET_PIXEL or CLEAR of a plane changes a byte of it. -/
def Obligations.OnlyDrawingWritesPlanes : Prop :=
  ∀ (s t : State) (p : Plane) (a : Nat), step s = .next t → t.byteAt p a ≠ s.byteAt p a →
    ∃ w rest, s.ready = true ∧ s.requests = w :: rest ∧ t.err = .none ∧
      ((∃ on x y, decodeRequest w = .ok (.setPixel p on x y) ∧ a = (s.mapAt x y).1) ∨
       (∃ dark, decodeRequest w = .ok (.clear p dark) ∧ a < s.fbLen))

/-- 20_memory.md R76: the trace is only ever appended to, and a step with READY = 1 appends nothing. -/
def Obligations.TraceOnlyGrows : Prop :=
  ∀ s t : State, step s = .next t →
    ∃ evs, t.trace = s.trace ++ evs ∧ (s.ready = true → evs = [])

/-- 10_state.md R53: `step` is 0 after block reset; acceptance sets it to 0, a successful operation adds 1, a failed
one leaves it, and nothing else writes it. In progress the operation due is SEQ[step]. STATUS.STEP shows it. -/
def Obligations.StepCountsOperations : Prop :=
  State.reset.stepCount = 0 ∧
  (∀ s : State, (s.readReg 0).extractLsb' 12 8 = BitVec.ofNat 8 s.stepCount) ∧
  ∀ s t : State, step s = .next t →
    (s.ready = true → s.requests = [] → t.stepCount = s.stepCount) ∧
    (s.ready = true → s.requests ≠ [] → t.stepCount = 0) ∧
    (s.ready = false → ∃ op, s.seq[s.stepCount]? = some op ∧
      ((t.stepCount = s.stepCount + 1 ∧ t.err = s.err ∧ t.trace = s.trace ++ wireEvents op) ∨
       (t.stepCount = s.stepCount ∧ t.ready = true ∧ (t.err = .transport ∨ t.err = .timeout)) ∨
       (t.stepCount = s.stepCount ∧ op = .busyWait ∧ t.ready = false ∧ t.trace = s.trace)))

/-- 10_state.md R47: LAST_OP is written with bits [3:0] of every accepted word, ILLEGAL ones too, and by nothing
else. -/
def Obligations.LastOpNamesAcceptedWord : Prop :=
  ∀ s t : State, step s = .next t →
    (∀ w rest, s.ready = true → s.requests = w :: rest → t.lastOp = w.extractLsb' 0 4) ∧
    (s.ready = false ∨ s.requests = [] → t.lastOp = s.lastOp)

/-- 60_exceptions.md R251: the errors each request can raise at acceptance; while a request runs only TRANSPORT and
TIMEOUT can be raised, and TIMEOUT only by a busy-wait. -/
def Obligations.ErrorsEachRequestRaises : Prop :=
  (∀ (i : Instr) (w : RequestWord) (s t : State), encode i = .request w → exec i s = .next t →
    t.err = .none ∨ t.err ∈ acceptanceErrors i) ∧
  (∀ s t : State, s.ready = false → step s = .next t → t.err ≠ s.err →
    t.err = .transport ∨ (t.err = .timeout ∧ s.seq[s.stepCount]? = some .busyWait ∧ s.busyMaxPolls ≠ none))

/-- 60_exceptions.md R254: an error found at acceptance (ILLEGAL, STATE, CONFIG, BOUNDS) changes nothing but ERR, LAST_OP
and STEP; the word is taken from the queue. -/
def Obligations.RejectionIsPrecise : Prop :=
  ∀ (s t : State) (w : RequestWord) (rest : List RequestWord), s.ready = true → s.requests = w :: rest →
    step s = .next t → t.err ≠ .none →
    (t.err = .illegal ∨ t.err = .state ∨ t.err = .config ∨ t.err = .bounds) ∧
    t = { s with requests := rest, lastOp := w.extractLsb' 0 4, err := t.err, stepCount := 0 }

/-- 41_sequencer.md R193: block reset does not leave STATE = DEEP_SLEEP, and no request and no event enters it. -/
def Obligations.DeepSleepNeverEntered : Prop :=
  State.reset.seqState ≠ .deepSleep ∧ State.reset.finalState ≠ .deepSleep ∧
  ∀ s t : State, s.seqState ≠ .deepSleep → s.finalState ≠ .deepSleep → step s = .next t →
    t.seqState ≠ .deepSleep ∧ t.finalState ≠ .deepSleep

/-- 41_sequencer.md R192: nothing reads AUTO_UPDATE: a step from a state with another AUTO_UPDATE does the same, up to
AUTO_UPDATE itself. -/
def Obligations.AutoUpdateHasNoEffect : Prop :=
  ∀ (s t : State) (b : Bool), step s = .next t →
    ∃ u, step { s with autoUpdate := b } = .next u ∧ ({ u with autoUpdate := t.autoUpdate } : State) = t
end

