-- ==== Sys2Proof/Laws/State.lean ====
section
/-! SUPPORT. One lemma per field for every update of the state, so that no later proof unfolds a record
update. -/

namespace Sys2Proof.Machine

@[simp] theorem State.accept_ready (op : BitVec 4) (s : State) : (s.accept op).ready = s.ready := rfl
@[simp] theorem State.accept_cfgValid (op : BitVec 4) (s : State) : (s.accept op).cfgValid = s.cfgValid := rfl
@[simp] theorem State.accept_seqState (op : BitVec 4) (s : State) : (s.accept op).seqState = s.seqState := rfl
@[simp] theorem State.accept_err (op : BitVec 4) (s : State) : (s.accept op).err = ErrCode.none := rfl
@[simp] theorem State.accept_lastOp (op : BitVec 4) (s : State) : (s.accept op).lastOp = op := rfl
@[simp] theorem State.accept_byteIndex (op : BitVec 4) (s : State) : (s.accept op).byteIndex = s.byteIndex := rfl
@[simp] theorem State.accept_mask (op : BitVec 4) (s : State) : (s.accept op).mask = s.mask := rfl
@[simp] theorem State.accept_rows (op : BitVec 4) (s : State) : (s.accept op).rows = s.rows := rfl
@[simp] theorem State.accept_cols (op : BitVec 4) (s : State) : (s.accept op).cols = s.cols := rfl
@[simp] theorem State.accept_rot (op : BitVec 4) (s : State) : (s.accept op).rot = s.rot := rfl
@[simp] theorem State.accept_autoUpdate (op : BitVec 4) (s : State) : (s.accept op).autoUpdate = s.autoUpdate := rfl
@[simp] theorem State.accept_data (op : BitVec 4) (s : State) : (s.accept op).data = s.data := rfl
@[simp] theorem State.accept_stepCount (op : BitVec 4) (s : State) : (s.accept op).stepCount = 0 := rfl
@[simp] theorem State.accept_seq (op : BitVec 4) (s : State) : (s.accept op).seq = s.seq := rfl
@[simp] theorem State.accept_polls (op : BitVec 4) (s : State) : (s.accept op).polls = s.polls := rfl
@[simp] theorem State.accept_finalState (op : BitVec 4) (s : State) : (s.accept op).finalState = s.finalState := rfl
@[simp] theorem State.accept_rstN (op : BitVec 4) (s : State) : (s.accept op).rstN = s.rstN := rfl
@[simp] theorem State.accept_dc (op : BitVec 4) (s : State) : (s.accept op).dc = s.dc := rfl
@[simp] theorem State.accept_bw (op : BitVec 4) (s : State) : (s.accept op).bw = s.bw := rfl
@[simp] theorem State.accept_red (op : BitVec 4) (s : State) : (s.accept op).red = s.red := rfl
@[simp] theorem State.accept_trace (op : BitVec 4) (s : State) : (s.accept op).trace = s.trace := rfl
@[simp] theorem State.accept_busyMaxPolls (op : BitVec 4) (s : State) : (s.accept op).busyMaxPolls = s.busyMaxPolls := rfl
@[simp] theorem State.accept_requests (op : BitVec 4) (s : State) : (s.accept op).requests = s.requests := rfl
@[simp] theorem State.accept_opScript (op : BitVec 4) (s : State) : (s.accept op).opScript = s.opScript := rfl
@[simp] theorem State.accept_pollScript (op : BitVec 4) (s : State) : (s.accept op).pollScript = s.pollScript := rfl
@[simp] theorem State.accept_draws (op : BitVec 4) (s : State) : (s.accept op).draws = s.draws := rfl

@[simp] theorem State.reject_ready (e : ErrCode) (s : State) : (s.reject e).ready = s.ready := rfl
@[simp] theorem State.reject_cfgValid (e : ErrCode) (s : State) : (s.reject e).cfgValid = s.cfgValid := rfl
@[simp] theorem State.reject_seqState (e : ErrCode) (s : State) : (s.reject e).seqState = s.seqState := rfl
@[simp] theorem State.reject_err (e : ErrCode) (s : State) : (s.reject e).err = e := rfl
@[simp] theorem State.reject_lastOp (e : ErrCode) (s : State) : (s.reject e).lastOp = s.lastOp := rfl
@[simp] theorem State.reject_byteIndex (e : ErrCode) (s : State) : (s.reject e).byteIndex = s.byteIndex := rfl
@[simp] theorem State.reject_mask (e : ErrCode) (s : State) : (s.reject e).mask = s.mask := rfl
@[simp] theorem State.reject_rows (e : ErrCode) (s : State) : (s.reject e).rows = s.rows := rfl
@[simp] theorem State.reject_cols (e : ErrCode) (s : State) : (s.reject e).cols = s.cols := rfl
@[simp] theorem State.reject_rot (e : ErrCode) (s : State) : (s.reject e).rot = s.rot := rfl
@[simp] theorem State.reject_autoUpdate (e : ErrCode) (s : State) : (s.reject e).autoUpdate = s.autoUpdate := rfl
@[simp] theorem State.reject_data (e : ErrCode) (s : State) : (s.reject e).data = s.data := rfl
@[simp] theorem State.reject_stepCount (e : ErrCode) (s : State) : (s.reject e).stepCount = s.stepCount := rfl
@[simp] theorem State.reject_seq (e : ErrCode) (s : State) : (s.reject e).seq = s.seq := rfl
@[simp] theorem State.reject_polls (e : ErrCode) (s : State) : (s.reject e).polls = s.polls := rfl
@[simp] theorem State.reject_finalState (e : ErrCode) (s : State) : (s.reject e).finalState = s.finalState := rfl
@[simp] theorem State.reject_rstN (e : ErrCode) (s : State) : (s.reject e).rstN = s.rstN := rfl
@[simp] theorem State.reject_dc (e : ErrCode) (s : State) : (s.reject e).dc = s.dc := rfl
@[simp] theorem State.reject_bw (e : ErrCode) (s : State) : (s.reject e).bw = s.bw := rfl
@[simp] theorem State.reject_red (e : ErrCode) (s : State) : (s.reject e).red = s.red := rfl
@[simp] theorem State.reject_trace (e : ErrCode) (s : State) : (s.reject e).trace = s.trace := rfl
@[simp] theorem State.reject_busyMaxPolls (e : ErrCode) (s : State) : (s.reject e).busyMaxPolls = s.busyMaxPolls := rfl
@[simp] theorem State.reject_requests (e : ErrCode) (s : State) : (s.reject e).requests = s.requests := rfl
@[simp] theorem State.reject_opScript (e : ErrCode) (s : State) : (s.reject e).opScript = s.opScript := rfl
@[simp] theorem State.reject_pollScript (e : ErrCode) (s : State) : (s.reject e).pollScript = s.pollScript := rfl
@[simp] theorem State.reject_draws (e : ErrCode) (s : State) : (s.reject e).draws = s.draws := rfl

@[simp] theorem State.fail_ready (e : ErrCode) (s : State) : (s.fail e).ready = true := rfl
@[simp] theorem State.fail_cfgValid (e : ErrCode) (s : State) : (s.fail e).cfgValid = s.cfgValid := rfl
@[simp] theorem State.fail_seqState (e : ErrCode) (s : State) : (s.fail e).seqState = SeqState.indeterminate := rfl
@[simp] theorem State.fail_err (e : ErrCode) (s : State) : (s.fail e).err = e := rfl
@[simp] theorem State.fail_lastOp (e : ErrCode) (s : State) : (s.fail e).lastOp = s.lastOp := rfl
@[simp] theorem State.fail_byteIndex (e : ErrCode) (s : State) : (s.fail e).byteIndex = s.byteIndex := rfl
@[simp] theorem State.fail_mask (e : ErrCode) (s : State) : (s.fail e).mask = s.mask := rfl
@[simp] theorem State.fail_rows (e : ErrCode) (s : State) : (s.fail e).rows = s.rows := rfl
@[simp] theorem State.fail_cols (e : ErrCode) (s : State) : (s.fail e).cols = s.cols := rfl
@[simp] theorem State.fail_rot (e : ErrCode) (s : State) : (s.fail e).rot = s.rot := rfl
@[simp] theorem State.fail_autoUpdate (e : ErrCode) (s : State) : (s.fail e).autoUpdate = s.autoUpdate := rfl
@[simp] theorem State.fail_data (e : ErrCode) (s : State) : (s.fail e).data = s.data := rfl
@[simp] theorem State.fail_stepCount (e : ErrCode) (s : State) : (s.fail e).stepCount = s.stepCount := rfl
@[simp] theorem State.fail_seq (e : ErrCode) (s : State) : (s.fail e).seq = [] := rfl
@[simp] theorem State.fail_polls (e : ErrCode) (s : State) : (s.fail e).polls = s.polls := rfl
@[simp] theorem State.fail_finalState (e : ErrCode) (s : State) : (s.fail e).finalState = s.finalState := rfl
@[simp] theorem State.fail_rstN (e : ErrCode) (s : State) : (s.fail e).rstN = s.rstN := rfl
@[simp] theorem State.fail_dc (e : ErrCode) (s : State) : (s.fail e).dc = s.dc := rfl
@[simp] theorem State.fail_bw (e : ErrCode) (s : State) : (s.fail e).bw = s.bw := rfl
@[simp] theorem State.fail_red (e : ErrCode) (s : State) : (s.fail e).red = s.red := rfl
@[simp] theorem State.fail_trace (e : ErrCode) (s : State) : (s.fail e).trace = s.trace := rfl
@[simp] theorem State.fail_busyMaxPolls (e : ErrCode) (s : State) : (s.fail e).busyMaxPolls = s.busyMaxPolls := rfl
@[simp] theorem State.fail_requests (e : ErrCode) (s : State) : (s.fail e).requests = s.requests := rfl
@[simp] theorem State.fail_opScript (e : ErrCode) (s : State) : (s.fail e).opScript = s.opScript := rfl
@[simp] theorem State.fail_pollScript (e : ErrCode) (s : State) : (s.fail e).pollScript = s.pollScript := rfl
@[simp] theorem State.fail_draws (e : ErrCode) (s : State) : (s.fail e).draws = s.draws := rfl

@[simp] theorem State.start_ready (seq : List TransportOp) (final entry : SeqState) (s : State) : (s.start seq final entry).ready = false := rfl
@[simp] theorem State.start_cfgValid (seq : List TransportOp) (final entry : SeqState) (s : State) : (s.start seq final entry).cfgValid = s.cfgValid := rfl
@[simp] theorem State.start_seqState (seq : List TransportOp) (final entry : SeqState) (s : State) : (s.start seq final entry).seqState = entry := rfl
@[simp] theorem State.start_err (seq : List TransportOp) (final entry : SeqState) (s : State) : (s.start seq final entry).err = s.err := rfl
@[simp] theorem State.start_lastOp (seq : List TransportOp) (final entry : SeqState) (s : State) : (s.start seq final entry).lastOp = s.lastOp := rfl
@[simp] theorem State.start_byteIndex (seq : List TransportOp) (final entry : SeqState) (s : State) : (s.start seq final entry).byteIndex = s.byteIndex := rfl
@[simp] theorem State.start_mask (seq : List TransportOp) (final entry : SeqState) (s : State) : (s.start seq final entry).mask = s.mask := rfl
@[simp] theorem State.start_rows (seq : List TransportOp) (final entry : SeqState) (s : State) : (s.start seq final entry).rows = s.rows := rfl
@[simp] theorem State.start_cols (seq : List TransportOp) (final entry : SeqState) (s : State) : (s.start seq final entry).cols = s.cols := rfl
@[simp] theorem State.start_rot (seq : List TransportOp) (final entry : SeqState) (s : State) : (s.start seq final entry).rot = s.rot := rfl
@[simp] theorem State.start_autoUpdate (seq : List TransportOp) (final entry : SeqState) (s : State) : (s.start seq final entry).autoUpdate = s.autoUpdate := rfl
@[simp] theorem State.start_data (seq : List TransportOp) (final entry : SeqState) (s : State) : (s.start seq final entry).data = s.data := rfl
@[simp] theorem State.start_stepCount (seq : List TransportOp) (final entry : SeqState) (s : State) : (s.start seq final entry).stepCount = 0 := rfl
@[simp] theorem State.start_seq (seq : List TransportOp) (final entry : SeqState) (s : State) : (s.start seq final entry).seq = seq := rfl
@[simp] theorem State.start_polls (seq : List TransportOp) (final entry : SeqState) (s : State) : (s.start seq final entry).polls = s.polls := rfl
@[simp] theorem State.start_finalState (seq : List TransportOp) (final entry : SeqState) (s : State) : (s.start seq final entry).finalState = final := rfl
@[simp] theorem State.start_rstN (seq : List TransportOp) (final entry : SeqState) (s : State) : (s.start seq final entry).rstN = s.rstN := rfl
@[simp] theorem State.start_dc (seq : List TransportOp) (final entry : SeqState) (s : State) : (s.start seq final entry).dc = s.dc := rfl
@[simp] theorem State.start_bw (seq : List TransportOp) (final entry : SeqState) (s : State) : (s.start seq final entry).bw = s.bw := rfl
@[simp] theorem State.start_red (seq : List TransportOp) (final entry : SeqState) (s : State) : (s.start seq final entry).red = s.red := rfl
@[simp] theorem State.start_trace (seq : List TransportOp) (final entry : SeqState) (s : State) : (s.start seq final entry).trace = s.trace := rfl
@[simp] theorem State.start_busyMaxPolls (seq : List TransportOp) (final entry : SeqState) (s : State) : (s.start seq final entry).busyMaxPolls = s.busyMaxPolls := rfl
@[simp] theorem State.start_requests (seq : List TransportOp) (final entry : SeqState) (s : State) : (s.start seq final entry).requests = s.requests := rfl
@[simp] theorem State.start_opScript (seq : List TransportOp) (final entry : SeqState) (s : State) : (s.start seq final entry).opScript = s.opScript := rfl
@[simp] theorem State.start_pollScript (seq : List TransportOp) (final entry : SeqState) (s : State) : (s.start seq final entry).pollScript = s.pollScript := rfl
@[simp] theorem State.start_draws (seq : List TransportOp) (final entry : SeqState) (s : State) : (s.start seq final entry).draws = s.draws := rfl

@[simp] theorem State.emitAll_ready (evs : List Event) (s : State) : (s.emitAll evs).ready = s.ready := rfl
@[simp] theorem State.emitAll_cfgValid (evs : List Event) (s : State) : (s.emitAll evs).cfgValid = s.cfgValid := rfl
@[simp] theorem State.emitAll_seqState (evs : List Event) (s : State) : (s.emitAll evs).seqState = s.seqState := rfl
@[simp] theorem State.emitAll_err (evs : List Event) (s : State) : (s.emitAll evs).err = s.err := rfl
@[simp] theorem State.emitAll_lastOp (evs : List Event) (s : State) : (s.emitAll evs).lastOp = s.lastOp := rfl
@[simp] theorem State.emitAll_byteIndex (evs : List Event) (s : State) : (s.emitAll evs).byteIndex = s.byteIndex := rfl
@[simp] theorem State.emitAll_mask (evs : List Event) (s : State) : (s.emitAll evs).mask = s.mask := rfl
@[simp] theorem State.emitAll_rows (evs : List Event) (s : State) : (s.emitAll evs).rows = s.rows := rfl
@[simp] theorem State.emitAll_cols (evs : List Event) (s : State) : (s.emitAll evs).cols = s.cols := rfl
@[simp] theorem State.emitAll_rot (evs : List Event) (s : State) : (s.emitAll evs).rot = s.rot := rfl
@[simp] theorem State.emitAll_autoUpdate (evs : List Event) (s : State) : (s.emitAll evs).autoUpdate = s.autoUpdate := rfl
@[simp] theorem State.emitAll_data (evs : List Event) (s : State) : (s.emitAll evs).data = s.data := rfl
@[simp] theorem State.emitAll_stepCount (evs : List Event) (s : State) : (s.emitAll evs).stepCount = s.stepCount := rfl
@[simp] theorem State.emitAll_seq (evs : List Event) (s : State) : (s.emitAll evs).seq = s.seq := rfl
@[simp] theorem State.emitAll_polls (evs : List Event) (s : State) : (s.emitAll evs).polls = s.polls := rfl
@[simp] theorem State.emitAll_finalState (evs : List Event) (s : State) : (s.emitAll evs).finalState = s.finalState := rfl
@[simp] theorem State.emitAll_rstN (evs : List Event) (s : State) : (s.emitAll evs).rstN = evs.foldl rstAfter s.rstN := rfl
@[simp] theorem State.emitAll_dc (evs : List Event) (s : State) : (s.emitAll evs).dc = evs.foldl dcAfter s.dc := rfl
@[simp] theorem State.emitAll_bw (evs : List Event) (s : State) : (s.emitAll evs).bw = s.bw := rfl
@[simp] theorem State.emitAll_red (evs : List Event) (s : State) : (s.emitAll evs).red = s.red := rfl
@[simp] theorem State.emitAll_trace (evs : List Event) (s : State) : (s.emitAll evs).trace = s.trace ++ evs := rfl
@[simp] theorem State.emitAll_busyMaxPolls (evs : List Event) (s : State) : (s.emitAll evs).busyMaxPolls = s.busyMaxPolls := rfl
@[simp] theorem State.emitAll_requests (evs : List Event) (s : State) : (s.emitAll evs).requests = s.requests := rfl
@[simp] theorem State.emitAll_opScript (evs : List Event) (s : State) : (s.emitAll evs).opScript = s.opScript := rfl
@[simp] theorem State.emitAll_pollScript (evs : List Event) (s : State) : (s.emitAll evs).pollScript = s.pollScript := rfl
@[simp] theorem State.emitAll_draws (evs : List Event) (s : State) : (s.emitAll evs).draws = s.draws := rfl

@[simp] theorem State.setPlane_ready (p : Plane) (m : Memory) (s : State) : (s.setPlane p m).ready = s.ready := by cases p <;> rfl
@[simp] theorem State.setPlane_cfgValid (p : Plane) (m : Memory) (s : State) : (s.setPlane p m).cfgValid = s.cfgValid := by cases p <;> rfl
@[simp] theorem State.setPlane_seqState (p : Plane) (m : Memory) (s : State) : (s.setPlane p m).seqState = s.seqState := by cases p <;> rfl
@[simp] theorem State.setPlane_err (p : Plane) (m : Memory) (s : State) : (s.setPlane p m).err = s.err := by cases p <;> rfl
@[simp] theorem State.setPlane_lastOp (p : Plane) (m : Memory) (s : State) : (s.setPlane p m).lastOp = s.lastOp := by cases p <;> rfl
@[simp] theorem State.setPlane_byteIndex (p : Plane) (m : Memory) (s : State) : (s.setPlane p m).byteIndex = s.byteIndex := by cases p <;> rfl
@[simp] theorem State.setPlane_mask (p : Plane) (m : Memory) (s : State) : (s.setPlane p m).mask = s.mask := by cases p <;> rfl
@[simp] theorem State.setPlane_rows (p : Plane) (m : Memory) (s : State) : (s.setPlane p m).rows = s.rows := by cases p <;> rfl
@[simp] theorem State.setPlane_cols (p : Plane) (m : Memory) (s : State) : (s.setPlane p m).cols = s.cols := by cases p <;> rfl
@[simp] theorem State.setPlane_rot (p : Plane) (m : Memory) (s : State) : (s.setPlane p m).rot = s.rot := by cases p <;> rfl
@[simp] theorem State.setPlane_autoUpdate (p : Plane) (m : Memory) (s : State) : (s.setPlane p m).autoUpdate = s.autoUpdate := by cases p <;> rfl
@[simp] theorem State.setPlane_data (p : Plane) (m : Memory) (s : State) : (s.setPlane p m).data = s.data := by cases p <;> rfl
@[simp] theorem State.setPlane_stepCount (p : Plane) (m : Memory) (s : State) : (s.setPlane p m).stepCount = s.stepCount := by cases p <;> rfl
@[simp] theorem State.setPlane_seq (p : Plane) (m : Memory) (s : State) : (s.setPlane p m).seq = s.seq := by cases p <;> rfl
@[simp] theorem State.setPlane_polls (p : Plane) (m : Memory) (s : State) : (s.setPlane p m).polls = s.polls := by cases p <;> rfl
@[simp] theorem State.setPlane_finalState (p : Plane) (m : Memory) (s : State) : (s.setPlane p m).finalState = s.finalState := by cases p <;> rfl
@[simp] theorem State.setPlane_rstN (p : Plane) (m : Memory) (s : State) : (s.setPlane p m).rstN = s.rstN := by cases p <;> rfl
@[simp] theorem State.setPlane_dc (p : Plane) (m : Memory) (s : State) : (s.setPlane p m).dc = s.dc := by cases p <;> rfl
@[simp] theorem State.setPlane_trace (p : Plane) (m : Memory) (s : State) : (s.setPlane p m).trace = s.trace := by cases p <;> rfl
@[simp] theorem State.setPlane_busyMaxPolls (p : Plane) (m : Memory) (s : State) : (s.setPlane p m).busyMaxPolls = s.busyMaxPolls := by cases p <;> rfl
@[simp] theorem State.setPlane_requests (p : Plane) (m : Memory) (s : State) : (s.setPlane p m).requests = s.requests := by cases p <;> rfl
@[simp] theorem State.setPlane_opScript (p : Plane) (m : Memory) (s : State) : (s.setPlane p m).opScript = s.opScript := by cases p <;> rfl
@[simp] theorem State.setPlane_pollScript (p : Plane) (m : Memory) (s : State) : (s.setPlane p m).pollScript = s.pollScript := by cases p <;> rfl
@[simp] theorem State.setPlane_draws (p : Plane) (m : Memory) (s : State) : (s.setPlane p m).draws = s.draws := by cases p <;> rfl

@[simp] theorem State.advance_cfgValid (s : State) : (s.advance).cfgValid = s.cfgValid := by
  unfold State.advance; dsimp only; split <;> rfl
@[simp] theorem State.advance_err (s : State) : (s.advance).err = s.err := by
  unfold State.advance; dsimp only; split <;> rfl
@[simp] theorem State.advance_lastOp (s : State) : (s.advance).lastOp = s.lastOp := by
  unfold State.advance; dsimp only; split <;> rfl
@[simp] theorem State.advance_byteIndex (s : State) : (s.advance).byteIndex = s.byteIndex := by
  unfold State.advance; dsimp only; split <;> rfl
@[simp] theorem State.advance_mask (s : State) : (s.advance).mask = s.mask := by
  unfold State.advance; dsimp only; split <;> rfl
@[simp] theorem State.advance_rows (s : State) : (s.advance).rows = s.rows := by
  unfold State.advance; dsimp only; split <;> rfl
@[simp] theorem State.advance_cols (s : State) : (s.advance).cols = s.cols := by
  unfold State.advance; dsimp only; split <;> rfl
@[simp] theorem State.advance_rot (s : State) : (s.advance).rot = s.rot := by
  unfold State.advance; dsimp only; split <;> rfl
@[simp] theorem State.advance_autoUpdate (s : State) : (s.advance).autoUpdate = s.autoUpdate := by
  unfold State.advance; dsimp only; split <;> rfl
@[simp] theorem State.advance_data (s : State) : (s.advance).data = s.data := by
  unfold State.advance; dsimp only; split <;> rfl
@[simp] theorem State.advance_finalState (s : State) : (s.advance).finalState = s.finalState := by
  unfold State.advance; dsimp only; split <;> rfl
@[simp] theorem State.advance_rstN (s : State) : (s.advance).rstN = s.rstN := by
  unfold State.advance; dsimp only; split <;> rfl
@[simp] theorem State.advance_dc (s : State) : (s.advance).dc = s.dc := by
  unfold State.advance; dsimp only; split <;> rfl
@[simp] theorem State.advance_bw (s : State) : (s.advance).bw = s.bw := by
  unfold State.advance; dsimp only; split <;> rfl
@[simp] theorem State.advance_red (s : State) : (s.advance).red = s.red := by
  unfold State.advance; dsimp only; split <;> rfl
@[simp] theorem State.advance_trace (s : State) : (s.advance).trace = s.trace := by
  unfold State.advance; dsimp only; split <;> rfl
@[simp] theorem State.advance_busyMaxPolls (s : State) : (s.advance).busyMaxPolls = s.busyMaxPolls := by
  unfold State.advance; dsimp only; split <;> rfl
@[simp] theorem State.advance_requests (s : State) : (s.advance).requests = s.requests := by
  unfold State.advance; dsimp only; split <;> rfl
@[simp] theorem State.advance_opScript (s : State) : (s.advance).opScript = s.opScript := by
  unfold State.advance; dsimp only; split <;> rfl
@[simp] theorem State.advance_pollScript (s : State) : (s.advance).pollScript = s.pollScript := by
  unfold State.advance; dsimp only; split <;> rfl
@[simp] theorem State.advance_draws (s : State) : (s.advance).draws = s.draws := by
  unfold State.advance; dsimp only; split <;> rfl

@[simp] theorem State.enterDrawing_ready (s : State) : (s.enterDrawing).ready = s.ready := by
  unfold State.enterDrawing; split <;> rfl
@[simp] theorem State.enterDrawing_cfgValid (s : State) : (s.enterDrawing).cfgValid = s.cfgValid := by
  unfold State.enterDrawing; split <;> rfl
@[simp] theorem State.enterDrawing_err (s : State) : (s.enterDrawing).err = s.err := by
  unfold State.enterDrawing; split <;> rfl
@[simp] theorem State.enterDrawing_lastOp (s : State) : (s.enterDrawing).lastOp = s.lastOp := by
  unfold State.enterDrawing; split <;> rfl
@[simp] theorem State.enterDrawing_byteIndex (s : State) : (s.enterDrawing).byteIndex = s.byteIndex := by
  unfold State.enterDrawing; split <;> rfl
@[simp] theorem State.enterDrawing_mask (s : State) : (s.enterDrawing).mask = s.mask := by
  unfold State.enterDrawing; split <;> rfl
@[simp] theorem State.enterDrawing_rows (s : State) : (s.enterDrawing).rows = s.rows := by
  unfold State.enterDrawing; split <;> rfl
@[simp] theorem State.enterDrawing_cols (s : State) : (s.enterDrawing).cols = s.cols := by
  unfold State.enterDrawing; split <;> rfl
@[simp] theorem State.enterDrawing_rot (s : State) : (s.enterDrawing).rot = s.rot := by
  unfold State.enterDrawing; split <;> rfl
@[simp] theorem State.enterDrawing_autoUpdate (s : State) : (s.enterDrawing).autoUpdate = s.autoUpdate := by
  unfold State.enterDrawing; split <;> rfl
@[simp] theorem State.enterDrawing_data (s : State) : (s.enterDrawing).data = s.data := by
  unfold State.enterDrawing; split <;> rfl
@[simp] theorem State.enterDrawing_stepCount (s : State) : (s.enterDrawing).stepCount = s.stepCount := by
  unfold State.enterDrawing; split <;> rfl
@[simp] theorem State.enterDrawing_seq (s : State) : (s.enterDrawing).seq = s.seq := by
  unfold State.enterDrawing; split <;> rfl
@[simp] theorem State.enterDrawing_polls (s : State) : (s.enterDrawing).polls = s.polls := by
  unfold State.enterDrawing; split <;> rfl
@[simp] theorem State.enterDrawing_finalState (s : State) : (s.enterDrawing).finalState = s.finalState := by
  unfold State.enterDrawing; split <;> rfl
@[simp] theorem State.enterDrawing_rstN (s : State) : (s.enterDrawing).rstN = s.rstN := by
  unfold State.enterDrawing; split <;> rfl
@[simp] theorem State.enterDrawing_dc (s : State) : (s.enterDrawing).dc = s.dc := by
  unfold State.enterDrawing; split <;> rfl
@[simp] theorem State.enterDrawing_bw (s : State) : (s.enterDrawing).bw = s.bw := by
  unfold State.enterDrawing; split <;> rfl
@[simp] theorem State.enterDrawing_red (s : State) : (s.enterDrawing).red = s.red := by
  unfold State.enterDrawing; split <;> rfl
@[simp] theorem State.enterDrawing_trace (s : State) : (s.enterDrawing).trace = s.trace := by
  unfold State.enterDrawing; split <;> rfl
@[simp] theorem State.enterDrawing_busyMaxPolls (s : State) : (s.enterDrawing).busyMaxPolls = s.busyMaxPolls := by
  unfold State.enterDrawing; split <;> rfl
@[simp] theorem State.enterDrawing_requests (s : State) : (s.enterDrawing).requests = s.requests := by
  unfold State.enterDrawing; split <;> rfl
@[simp] theorem State.enterDrawing_opScript (s : State) : (s.enterDrawing).opScript = s.opScript := by
  unfold State.enterDrawing; split <;> rfl
@[simp] theorem State.enterDrawing_pollScript (s : State) : (s.enterDrawing).pollScript = s.pollScript := by
  unfold State.enterDrawing; split <;> rfl
@[simp] theorem State.enterDrawing_draws (s : State) : (s.enterDrawing).draws = s.draws := by
  unfold State.enterDrawing; split <;> rfl

@[simp] theorem State.emitFailed_ready (op : TransportOp) (k : Nat) (d : Bool) (s : State) : (s.emitFailed op k d).ready = s.ready := by
  unfold State.emitFailed; dsimp only; split <;> rfl
@[simp] theorem State.emitFailed_cfgValid (op : TransportOp) (k : Nat) (d : Bool) (s : State) : (s.emitFailed op k d).cfgValid = s.cfgValid := by
  unfold State.emitFailed; dsimp only; split <;> rfl
@[simp] theorem State.emitFailed_seqState (op : TransportOp) (k : Nat) (d : Bool) (s : State) : (s.emitFailed op k d).seqState = s.seqState := by
  unfold State.emitFailed; dsimp only; split <;> rfl
@[simp] theorem State.emitFailed_err (op : TransportOp) (k : Nat) (d : Bool) (s : State) : (s.emitFailed op k d).err = s.err := by
  unfold State.emitFailed; dsimp only; split <;> rfl
@[simp] theorem State.emitFailed_lastOp (op : TransportOp) (k : Nat) (d : Bool) (s : State) : (s.emitFailed op k d).lastOp = s.lastOp := by
  unfold State.emitFailed; dsimp only; split <;> rfl
@[simp] theorem State.emitFailed_byteIndex (op : TransportOp) (k : Nat) (d : Bool) (s : State) : (s.emitFailed op k d).byteIndex = s.byteIndex := by
  unfold State.emitFailed; dsimp only; split <;> rfl
@[simp] theorem State.emitFailed_mask (op : TransportOp) (k : Nat) (d : Bool) (s : State) : (s.emitFailed op k d).mask = s.mask := by
  unfold State.emitFailed; dsimp only; split <;> rfl
@[simp] theorem State.emitFailed_rows (op : TransportOp) (k : Nat) (d : Bool) (s : State) : (s.emitFailed op k d).rows = s.rows := by
  unfold State.emitFailed; dsimp only; split <;> rfl
@[simp] theorem State.emitFailed_cols (op : TransportOp) (k : Nat) (d : Bool) (s : State) : (s.emitFailed op k d).cols = s.cols := by
  unfold State.emitFailed; dsimp only; split <;> rfl
@[simp] theorem State.emitFailed_rot (op : TransportOp) (k : Nat) (d : Bool) (s : State) : (s.emitFailed op k d).rot = s.rot := by
  unfold State.emitFailed; dsimp only; split <;> rfl
@[simp] theorem State.emitFailed_autoUpdate (op : TransportOp) (k : Nat) (d : Bool) (s : State) : (s.emitFailed op k d).autoUpdate = s.autoUpdate := by
  unfold State.emitFailed; dsimp only; split <;> rfl
@[simp] theorem State.emitFailed_data (op : TransportOp) (k : Nat) (d : Bool) (s : State) : (s.emitFailed op k d).data = s.data := by
  unfold State.emitFailed; dsimp only; split <;> rfl
@[simp] theorem State.emitFailed_stepCount (op : TransportOp) (k : Nat) (d : Bool) (s : State) : (s.emitFailed op k d).stepCount = s.stepCount := by
  unfold State.emitFailed; dsimp only; split <;> rfl
@[simp] theorem State.emitFailed_seq (op : TransportOp) (k : Nat) (d : Bool) (s : State) : (s.emitFailed op k d).seq = s.seq := by
  unfold State.emitFailed; dsimp only; split <;> rfl
@[simp] theorem State.emitFailed_polls (op : TransportOp) (k : Nat) (d : Bool) (s : State) : (s.emitFailed op k d).polls = s.polls := by
  unfold State.emitFailed; dsimp only; split <;> rfl
@[simp] theorem State.emitFailed_finalState (op : TransportOp) (k : Nat) (d : Bool) (s : State) : (s.emitFailed op k d).finalState = s.finalState := by
  unfold State.emitFailed; dsimp only; split <;> rfl
@[simp] theorem State.emitFailed_bw (op : TransportOp) (k : Nat) (d : Bool) (s : State) : (s.emitFailed op k d).bw = s.bw := by
  unfold State.emitFailed; dsimp only; split <;> rfl
@[simp] theorem State.emitFailed_red (op : TransportOp) (k : Nat) (d : Bool) (s : State) : (s.emitFailed op k d).red = s.red := by
  unfold State.emitFailed; dsimp only; split <;> rfl
@[simp] theorem State.emitFailed_busyMaxPolls (op : TransportOp) (k : Nat) (d : Bool) (s : State) : (s.emitFailed op k d).busyMaxPolls = s.busyMaxPolls := by
  unfold State.emitFailed; dsimp only; split <;> rfl
@[simp] theorem State.emitFailed_requests (op : TransportOp) (k : Nat) (d : Bool) (s : State) : (s.emitFailed op k d).requests = s.requests := by
  unfold State.emitFailed; dsimp only; split <;> rfl
@[simp] theorem State.emitFailed_opScript (op : TransportOp) (k : Nat) (d : Bool) (s : State) : (s.emitFailed op k d).opScript = s.opScript := by
  unfold State.emitFailed; dsimp only; split <;> rfl
@[simp] theorem State.emitFailed_pollScript (op : TransportOp) (k : Nat) (d : Bool) (s : State) : (s.emitFailed op k d).pollScript = s.pollScript := by
  unfold State.emitFailed; dsimp only; split <;> rfl
@[simp] theorem State.emitFailed_draws (op : TransportOp) (k : Nat) (d : Bool) (s : State) : (s.emitFailed op k d).draws = s.draws := by
  unfold State.emitFailed; dsimp only; split <;> rfl

@[simp] theorem State.takeOpAnswer_ready (s : State) : (s.takeOpAnswer.2).ready = s.ready := by
  unfold State.takeOpAnswer; split <;> rfl
@[simp] theorem State.takeOpAnswer_cfgValid (s : State) : (s.takeOpAnswer.2).cfgValid = s.cfgValid := by
  unfold State.takeOpAnswer; split <;> rfl
@[simp] theorem State.takeOpAnswer_seqState (s : State) : (s.takeOpAnswer.2).seqState = s.seqState := by
  unfold State.takeOpAnswer; split <;> rfl
@[simp] theorem State.takeOpAnswer_err (s : State) : (s.takeOpAnswer.2).err = s.err := by
  unfold State.takeOpAnswer; split <;> rfl
@[simp] theorem State.takeOpAnswer_lastOp (s : State) : (s.takeOpAnswer.2).lastOp = s.lastOp := by
  unfold State.takeOpAnswer; split <;> rfl
@[simp] theorem State.takeOpAnswer_byteIndex (s : State) : (s.takeOpAnswer.2).byteIndex = s.byteIndex := by
  unfold State.takeOpAnswer; split <;> rfl
@[simp] theorem State.takeOpAnswer_mask (s : State) : (s.takeOpAnswer.2).mask = s.mask := by
  unfold State.takeOpAnswer; split <;> rfl
@[simp] theorem State.takeOpAnswer_rows (s : State) : (s.takeOpAnswer.2).rows = s.rows := by
  unfold State.takeOpAnswer; split <;> rfl
@[simp] theorem State.takeOpAnswer_cols (s : State) : (s.takeOpAnswer.2).cols = s.cols := by
  unfold State.takeOpAnswer; split <;> rfl
@[simp] theorem State.takeOpAnswer_rot (s : State) : (s.takeOpAnswer.2).rot = s.rot := by
  unfold State.takeOpAnswer; split <;> rfl
@[simp] theorem State.takeOpAnswer_autoUpdate (s : State) : (s.takeOpAnswer.2).autoUpdate = s.autoUpdate := by
  unfold State.takeOpAnswer; split <;> rfl
@[simp] theorem State.takeOpAnswer_data (s : State) : (s.takeOpAnswer.2).data = s.data := by
  unfold State.takeOpAnswer; split <;> rfl
@[simp] theorem State.takeOpAnswer_stepCount (s : State) : (s.takeOpAnswer.2).stepCount = s.stepCount := by
  unfold State.takeOpAnswer; split <;> rfl
@[simp] theorem State.takeOpAnswer_seq (s : State) : (s.takeOpAnswer.2).seq = s.seq := by
  unfold State.takeOpAnswer; split <;> rfl
@[simp] theorem State.takeOpAnswer_polls (s : State) : (s.takeOpAnswer.2).polls = s.polls := by
  unfold State.takeOpAnswer; split <;> rfl
@[simp] theorem State.takeOpAnswer_finalState (s : State) : (s.takeOpAnswer.2).finalState = s.finalState := by
  unfold State.takeOpAnswer; split <;> rfl
@[simp] theorem State.takeOpAnswer_rstN (s : State) : (s.takeOpAnswer.2).rstN = s.rstN := by
  unfold State.takeOpAnswer; split <;> rfl
@[simp] theorem State.takeOpAnswer_dc (s : State) : (s.takeOpAnswer.2).dc = s.dc := by
  unfold State.takeOpAnswer; split <;> rfl
@[simp] theorem State.takeOpAnswer_bw (s : State) : (s.takeOpAnswer.2).bw = s.bw := by
  unfold State.takeOpAnswer; split <;> rfl
@[simp] theorem State.takeOpAnswer_red (s : State) : (s.takeOpAnswer.2).red = s.red := by
  unfold State.takeOpAnswer; split <;> rfl
@[simp] theorem State.takeOpAnswer_trace (s : State) : (s.takeOpAnswer.2).trace = s.trace := by
  unfold State.takeOpAnswer; split <;> rfl
@[simp] theorem State.takeOpAnswer_busyMaxPolls (s : State) : (s.takeOpAnswer.2).busyMaxPolls = s.busyMaxPolls := by
  unfold State.takeOpAnswer; split <;> rfl
@[simp] theorem State.takeOpAnswer_requests (s : State) : (s.takeOpAnswer.2).requests = s.requests := by
  unfold State.takeOpAnswer; split <;> rfl
@[simp] theorem State.takeOpAnswer_pollScript (s : State) : (s.takeOpAnswer.2).pollScript = s.pollScript := by
  unfold State.takeOpAnswer; split <;> rfl

@[simp] theorem State.takePollAnswer_ready (s : State) : (s.takePollAnswer.2).ready = s.ready := by
  unfold State.takePollAnswer; split <;> rfl
@[simp] theorem State.takePollAnswer_cfgValid (s : State) : (s.takePollAnswer.2).cfgValid = s.cfgValid := by
  unfold State.takePollAnswer; split <;> rfl
@[simp] theorem State.takePollAnswer_seqState (s : State) : (s.takePollAnswer.2).seqState = s.seqState := by
  unfold State.takePollAnswer; split <;> rfl
@[simp] theorem State.takePollAnswer_err (s : State) : (s.takePollAnswer.2).err = s.err := by
  unfold State.takePollAnswer; split <;> rfl
@[simp] theorem State.takePollAnswer_lastOp (s : State) : (s.takePollAnswer.2).lastOp = s.lastOp := by
  unfold State.takePollAnswer; split <;> rfl
@[simp] theorem State.takePollAnswer_byteIndex (s : State) : (s.takePollAnswer.2).byteIndex = s.byteIndex := by
  unfold State.takePollAnswer; split <;> rfl
@[simp] theorem State.takePollAnswer_mask (s : State) : (s.takePollAnswer.2).mask = s.mask := by
  unfold State.takePollAnswer; split <;> rfl
@[simp] theorem State.takePollAnswer_rows (s : State) : (s.takePollAnswer.2).rows = s.rows := by
  unfold State.takePollAnswer; split <;> rfl
@[simp] theorem State.takePollAnswer_cols (s : State) : (s.takePollAnswer.2).cols = s.cols := by
  unfold State.takePollAnswer; split <;> rfl
@[simp] theorem State.takePollAnswer_rot (s : State) : (s.takePollAnswer.2).rot = s.rot := by
  unfold State.takePollAnswer; split <;> rfl
@[simp] theorem State.takePollAnswer_autoUpdate (s : State) : (s.takePollAnswer.2).autoUpdate = s.autoUpdate := by
  unfold State.takePollAnswer; split <;> rfl
@[simp] theorem State.takePollAnswer_data (s : State) : (s.takePollAnswer.2).data = s.data := by
  unfold State.takePollAnswer; split <;> rfl
@[simp] theorem State.takePollAnswer_stepCount (s : State) : (s.takePollAnswer.2).stepCount = s.stepCount := by
  unfold State.takePollAnswer; split <;> rfl
@[simp] theorem State.takePollAnswer_seq (s : State) : (s.takePollAnswer.2).seq = s.seq := by
  unfold State.takePollAnswer; split <;> rfl
@[simp] theorem State.takePollAnswer_polls (s : State) : (s.takePollAnswer.2).polls = s.polls := by
  unfold State.takePollAnswer; split <;> rfl
@[simp] theorem State.takePollAnswer_finalState (s : State) : (s.takePollAnswer.2).finalState = s.finalState := by
  unfold State.takePollAnswer; split <;> rfl
@[simp] theorem State.takePollAnswer_rstN (s : State) : (s.takePollAnswer.2).rstN = s.rstN := by
  unfold State.takePollAnswer; split <;> rfl
@[simp] theorem State.takePollAnswer_dc (s : State) : (s.takePollAnswer.2).dc = s.dc := by
  unfold State.takePollAnswer; split <;> rfl
@[simp] theorem State.takePollAnswer_bw (s : State) : (s.takePollAnswer.2).bw = s.bw := by
  unfold State.takePollAnswer; split <;> rfl
@[simp] theorem State.takePollAnswer_red (s : State) : (s.takePollAnswer.2).red = s.red := by
  unfold State.takePollAnswer; split <;> rfl
@[simp] theorem State.takePollAnswer_trace (s : State) : (s.takePollAnswer.2).trace = s.trace := by
  unfold State.takePollAnswer; split <;> rfl
@[simp] theorem State.takePollAnswer_busyMaxPolls (s : State) : (s.takePollAnswer.2).busyMaxPolls = s.busyMaxPolls := by
  unfold State.takePollAnswer; split <;> rfl
@[simp] theorem State.takePollAnswer_requests (s : State) : (s.takePollAnswer.2).requests = s.requests := by
  unfold State.takePollAnswer; split <;> rfl
@[simp] theorem State.takePollAnswer_opScript (s : State) : (s.takePollAnswer.2).opScript = s.opScript := by
  unfold State.takePollAnswer; split <;> rfl

@[simp] theorem State.perform_cfgValid (op : TransportOp) (s : State) : (s.perform op).cfgValid = s.cfgValid := by
  unfold State.perform; obtain ⟨a, t, h⟩ : ∃ a t, s.takeOpAnswer = (a, t) := ⟨_, _, rfl⟩
  rw [h]
  have e : t = s.takeOpAnswer.2 := by rw [h]
  cases a <;> simp [e]
@[simp] theorem State.perform_lastOp (op : TransportOp) (s : State) : (s.perform op).lastOp = s.lastOp := by
  unfold State.perform; obtain ⟨a, t, h⟩ : ∃ a t, s.takeOpAnswer = (a, t) := ⟨_, _, rfl⟩
  rw [h]
  have e : t = s.takeOpAnswer.2 := by rw [h]
  cases a <;> simp [e]
@[simp] theorem State.perform_byteIndex (op : TransportOp) (s : State) : (s.perform op).byteIndex = s.byteIndex := by
  unfold State.perform; obtain ⟨a, t, h⟩ : ∃ a t, s.takeOpAnswer = (a, t) := ⟨_, _, rfl⟩
  rw [h]
  have e : t = s.takeOpAnswer.2 := by rw [h]
  cases a <;> simp [e]
@[simp] theorem State.perform_mask (op : TransportOp) (s : State) : (s.perform op).mask = s.mask := by
  unfold State.perform; obtain ⟨a, t, h⟩ : ∃ a t, s.takeOpAnswer = (a, t) := ⟨_, _, rfl⟩
  rw [h]
  have e : t = s.takeOpAnswer.2 := by rw [h]
  cases a <;> simp [e]
@[simp] theorem State.perform_rows (op : TransportOp) (s : State) : (s.perform op).rows = s.rows := by
  unfold State.perform; obtain ⟨a, t, h⟩ : ∃ a t, s.takeOpAnswer = (a, t) := ⟨_, _, rfl⟩
  rw [h]
  have e : t = s.takeOpAnswer.2 := by rw [h]
  cases a <;> simp [e]
@[simp] theorem State.perform_cols (op : TransportOp) (s : State) : (s.perform op).cols = s.cols := by
  unfold State.perform; obtain ⟨a, t, h⟩ : ∃ a t, s.takeOpAnswer = (a, t) := ⟨_, _, rfl⟩
  rw [h]
  have e : t = s.takeOpAnswer.2 := by rw [h]
  cases a <;> simp [e]
@[simp] theorem State.perform_rot (op : TransportOp) (s : State) : (s.perform op).rot = s.rot := by
  unfold State.perform; obtain ⟨a, t, h⟩ : ∃ a t, s.takeOpAnswer = (a, t) := ⟨_, _, rfl⟩
  rw [h]
  have e : t = s.takeOpAnswer.2 := by rw [h]
  cases a <;> simp [e]
@[simp] theorem State.perform_autoUpdate (op : TransportOp) (s : State) : (s.perform op).autoUpdate = s.autoUpdate := by
  unfold State.perform; obtain ⟨a, t, h⟩ : ∃ a t, s.takeOpAnswer = (a, t) := ⟨_, _, rfl⟩
  rw [h]
  have e : t = s.takeOpAnswer.2 := by rw [h]
  cases a <;> simp [e]
@[simp] theorem State.perform_data (op : TransportOp) (s : State) : (s.perform op).data = s.data := by
  unfold State.perform; obtain ⟨a, t, h⟩ : ∃ a t, s.takeOpAnswer = (a, t) := ⟨_, _, rfl⟩
  rw [h]
  have e : t = s.takeOpAnswer.2 := by rw [h]
  cases a <;> simp [e]
@[simp] theorem State.perform_finalState (op : TransportOp) (s : State) : (s.perform op).finalState = s.finalState := by
  unfold State.perform; obtain ⟨a, t, h⟩ : ∃ a t, s.takeOpAnswer = (a, t) := ⟨_, _, rfl⟩
  rw [h]
  have e : t = s.takeOpAnswer.2 := by rw [h]
  cases a <;> simp [e]
@[simp] theorem State.perform_bw (op : TransportOp) (s : State) : (s.perform op).bw = s.bw := by
  unfold State.perform; obtain ⟨a, t, h⟩ : ∃ a t, s.takeOpAnswer = (a, t) := ⟨_, _, rfl⟩
  rw [h]
  have e : t = s.takeOpAnswer.2 := by rw [h]
  cases a <;> simp [e]
@[simp] theorem State.perform_red (op : TransportOp) (s : State) : (s.perform op).red = s.red := by
  unfold State.perform; obtain ⟨a, t, h⟩ : ∃ a t, s.takeOpAnswer = (a, t) := ⟨_, _, rfl⟩
  rw [h]
  have e : t = s.takeOpAnswer.2 := by rw [h]
  cases a <;> simp [e]
@[simp] theorem State.perform_busyMaxPolls (op : TransportOp) (s : State) : (s.perform op).busyMaxPolls = s.busyMaxPolls := by
  unfold State.perform; obtain ⟨a, t, h⟩ : ∃ a t, s.takeOpAnswer = (a, t) := ⟨_, _, rfl⟩
  rw [h]
  have e : t = s.takeOpAnswer.2 := by rw [h]
  cases a <;> simp [e]
@[simp] theorem State.perform_requests (op : TransportOp) (s : State) : (s.perform op).requests = s.requests := by
  unfold State.perform; obtain ⟨a, t, h⟩ : ∃ a t, s.takeOpAnswer = (a, t) := ⟨_, _, rfl⟩
  rw [h]
  have e : t = s.takeOpAnswer.2 := by rw [h]
  cases a <;> simp [e]
@[simp] theorem State.perform_pollScript (op : TransportOp) (s : State) : (s.perform op).pollScript = s.pollScript := by
  unfold State.perform; obtain ⟨a, t, h⟩ : ∃ a t, s.takeOpAnswer = (a, t) := ⟨_, _, rfl⟩
  rw [h]
  have e : t = s.takeOpAnswer.2 := by rw [h]
  cases a <;> simp [e]

@[simp] theorem State.pollBusy_cfgValid (s : State) : (s.pollBusy).cfgValid = s.cfgValid := by
  unfold State.pollBusy; obtain ⟨a, t, h⟩ : ∃ a t, s.takePollAnswer = (a, t) := ⟨_, _, rfl⟩
  rw [h]
  have e : t = s.takePollAnswer.2 := by rw [h]
  cases a with
  | err => simp [e]
  | level pin => simp only; split_ifs <;> simp [e]
@[simp] theorem State.pollBusy_lastOp (s : State) : (s.pollBusy).lastOp = s.lastOp := by
  unfold State.pollBusy; obtain ⟨a, t, h⟩ : ∃ a t, s.takePollAnswer = (a, t) := ⟨_, _, rfl⟩
  rw [h]
  have e : t = s.takePollAnswer.2 := by rw [h]
  cases a with
  | err => simp [e]
  | level pin => simp only; split_ifs <;> simp [e]
@[simp] theorem State.pollBusy_byteIndex (s : State) : (s.pollBusy).byteIndex = s.byteIndex := by
  unfold State.pollBusy; obtain ⟨a, t, h⟩ : ∃ a t, s.takePollAnswer = (a, t) := ⟨_, _, rfl⟩
  rw [h]
  have e : t = s.takePollAnswer.2 := by rw [h]
  cases a with
  | err => simp [e]
  | level pin => simp only; split_ifs <;> simp [e]
@[simp] theorem State.pollBusy_mask (s : State) : (s.pollBusy).mask = s.mask := by
  unfold State.pollBusy; obtain ⟨a, t, h⟩ : ∃ a t, s.takePollAnswer = (a, t) := ⟨_, _, rfl⟩
  rw [h]
  have e : t = s.takePollAnswer.2 := by rw [h]
  cases a with
  | err => simp [e]
  | level pin => simp only; split_ifs <;> simp [e]
@[simp] theorem State.pollBusy_rows (s : State) : (s.pollBusy).rows = s.rows := by
  unfold State.pollBusy; obtain ⟨a, t, h⟩ : ∃ a t, s.takePollAnswer = (a, t) := ⟨_, _, rfl⟩
  rw [h]
  have e : t = s.takePollAnswer.2 := by rw [h]
  cases a with
  | err => simp [e]
  | level pin => simp only; split_ifs <;> simp [e]
@[simp] theorem State.pollBusy_cols (s : State) : (s.pollBusy).cols = s.cols := by
  unfold State.pollBusy; obtain ⟨a, t, h⟩ : ∃ a t, s.takePollAnswer = (a, t) := ⟨_, _, rfl⟩
  rw [h]
  have e : t = s.takePollAnswer.2 := by rw [h]
  cases a with
  | err => simp [e]
  | level pin => simp only; split_ifs <;> simp [e]
@[simp] theorem State.pollBusy_rot (s : State) : (s.pollBusy).rot = s.rot := by
  unfold State.pollBusy; obtain ⟨a, t, h⟩ : ∃ a t, s.takePollAnswer = (a, t) := ⟨_, _, rfl⟩
  rw [h]
  have e : t = s.takePollAnswer.2 := by rw [h]
  cases a with
  | err => simp [e]
  | level pin => simp only; split_ifs <;> simp [e]
@[simp] theorem State.pollBusy_autoUpdate (s : State) : (s.pollBusy).autoUpdate = s.autoUpdate := by
  unfold State.pollBusy; obtain ⟨a, t, h⟩ : ∃ a t, s.takePollAnswer = (a, t) := ⟨_, _, rfl⟩
  rw [h]
  have e : t = s.takePollAnswer.2 := by rw [h]
  cases a with
  | err => simp [e]
  | level pin => simp only; split_ifs <;> simp [e]
@[simp] theorem State.pollBusy_data (s : State) : (s.pollBusy).data = s.data := by
  unfold State.pollBusy; obtain ⟨a, t, h⟩ : ∃ a t, s.takePollAnswer = (a, t) := ⟨_, _, rfl⟩
  rw [h]
  have e : t = s.takePollAnswer.2 := by rw [h]
  cases a with
  | err => simp [e]
  | level pin => simp only; split_ifs <;> simp [e]
@[simp] theorem State.pollBusy_finalState (s : State) : (s.pollBusy).finalState = s.finalState := by
  unfold State.pollBusy; obtain ⟨a, t, h⟩ : ∃ a t, s.takePollAnswer = (a, t) := ⟨_, _, rfl⟩
  rw [h]
  have e : t = s.takePollAnswer.2 := by rw [h]
  cases a with
  | err => simp [e]
  | level pin => simp only; split_ifs <;> simp [e]
@[simp] theorem State.pollBusy_bw (s : State) : (s.pollBusy).bw = s.bw := by
  unfold State.pollBusy; obtain ⟨a, t, h⟩ : ∃ a t, s.takePollAnswer = (a, t) := ⟨_, _, rfl⟩
  rw [h]
  have e : t = s.takePollAnswer.2 := by rw [h]
  cases a with
  | err => simp [e]
  | level pin => simp only; split_ifs <;> simp [e]
@[simp] theorem State.pollBusy_red (s : State) : (s.pollBusy).red = s.red := by
  unfold State.pollBusy; obtain ⟨a, t, h⟩ : ∃ a t, s.takePollAnswer = (a, t) := ⟨_, _, rfl⟩
  rw [h]
  have e : t = s.takePollAnswer.2 := by rw [h]
  cases a with
  | err => simp [e]
  | level pin => simp only; split_ifs <;> simp [e]
@[simp] theorem State.pollBusy_busyMaxPolls (s : State) : (s.pollBusy).busyMaxPolls = s.busyMaxPolls := by
  unfold State.pollBusy; obtain ⟨a, t, h⟩ : ∃ a t, s.takePollAnswer = (a, t) := ⟨_, _, rfl⟩
  rw [h]
  have e : t = s.takePollAnswer.2 := by rw [h]
  cases a with
  | err => simp [e]
  | level pin => simp only; split_ifs <;> simp [e]
@[simp] theorem State.pollBusy_requests (s : State) : (s.pollBusy).requests = s.requests := by
  unfold State.pollBusy; obtain ⟨a, t, h⟩ : ∃ a t, s.takePollAnswer = (a, t) := ⟨_, _, rfl⟩
  rw [h]
  have e : t = s.takePollAnswer.2 := by rw [h]
  cases a with
  | err => simp [e]
  | level pin => simp only; split_ifs <;> simp [e]
@[simp] theorem State.pollBusy_opScript (s : State) : (s.pollBusy).opScript = s.opScript := by
  unfold State.pollBusy; obtain ⟨a, t, h⟩ : ∃ a t, s.takePollAnswer = (a, t) := ⟨_, _, rfl⟩
  rw [h]
  have e : t = s.takePollAnswer.2 := by rw [h]
  cases a with
  | err => simp [e]
  | level pin => simp only; split_ifs <;> simp [e]

end Sys2Proof.Machine
end

