-- ==== Sys2Proof/Laws/Memory.lean ====
section
/-! SUPPORT. What the plane-memory operations do: each keeps the canonical form and the address bound, and a
read after a write or a fill gives the byte written there, every other byte as before. -/

namespace Sys2Proof.Machine

/-- A cell of a written memory is the one written, or was there before. -/
theorem mem_planeWrite {a : Nat} {v : Byte} {m : Memory} {c : Host.Cell} (h : c ∈ planeWrite a v m) :
    c = (a, v) ∨ c ∈ m := by
  induction m with
  | nil => simpa [planeWrite] using h
  | cons d m ih =>
    obtain ⟨b, w⟩ := d
    simp only [planeWrite] at h
    split_ifs at h with h1 h2
    · simpa using h
    · simp only [List.mem_cons] at h ⊢; tauto
    · simp only [List.mem_cons] at h ⊢
      rcases h with h | h
      · tauto
      · rcases ih h with h | h <;> tauto

theorem planeWrite_wf {m : Memory} (a : Nat) (v : Byte) (h : m.wf) : (planeWrite a v m).wf := by
  induction m with
  | nil => simp [planeWrite, Memory.wf]
  | cons d m ih =>
    obtain ⟨b, w⟩ := d
    have hm : Memory.wf m := h.of_cons
    have hb : ∀ c ∈ m, b < c.1 := fun c hc => (List.pairwise_cons.1 h).1 c hc
    simp only [planeWrite]
    split_ifs with h1 h2
    · refine List.pairwise_cons.2 ⟨fun c hc => ?_, h⟩
      rcases List.mem_cons.1 hc with rfl | hc
      · exact h1
      · exact lt_trans h1 (hb c hc)
    · subst h2
      exact List.pairwise_cons.2 ⟨hb, hm⟩
    · refine List.pairwise_cons.2 ⟨fun c hc => ?_, ih hm⟩
      rcases mem_planeWrite hc with rfl | hc
      · show b < a; omega
      · exact hb c hc

theorem planeWrite_inside {m : Memory} {n a : Nat} (v : Byte) (h : m.inside n) (ha : a < n) :
    (planeWrite a v m).inside n := by
  intro c hc
  rcases mem_planeWrite hc with rfl | hc
  · exact ha
  · exact h c hc

theorem planeFind_write_same (a : Nat) (v : Byte) (m : Memory) : planeFind a (planeWrite a v m) = some v := by
  induction m with
  | nil => simp [planeWrite, planeFind]
  | cons d m ih =>
    obtain ⟨b, w⟩ := d
    simp only [planeWrite]
    split_ifs with h1 h2
    · simp [planeFind]
    · simp [planeFind]
    · simp [planeFind, h2, ih]

theorem planeFind_write_other {a b : Nat} (v : Byte) (m : Memory) (h : b ≠ a) :
    planeFind b (planeWrite a v m) = planeFind b m := by
  induction m with
  | nil => simp [planeWrite, planeFind, h]
  | cons d m ih =>
    obtain ⟨e, w⟩ := d
    simp only [planeWrite]
    split_ifs with h1 h2
    · simp [planeFind, h]
    · subst h2; simp [planeFind, h]
    · simp [planeFind, ih]

theorem planeFill_wf {m : Memory} (n : Nat) (v : Byte) (h : m.wf) : (planeFill n v m).wf := by
  refine List.pairwise_append.2 ⟨?_, h.filter _, ?_⟩
  · exact List.pairwise_map.2 List.pairwise_lt_range
  · intro c hc d hd
    obtain ⟨a, ha, rfl⟩ := List.mem_map.1 hc
    have h1 := List.mem_range.1 ha
    have h2 : n ≤ d.1 := by simpa using (List.mem_filter.1 hd).2
    exact lt_of_lt_of_le h1 h2

theorem planeFill_inside {m : Memory} {n k : Nat} (v : Byte) (h : m.inside k) (hn : n ≤ k) :
    (planeFill n v m).inside k := by
  intro c hc
  rcases List.mem_append.1 hc with hc | hc
  · obtain ⟨a, ha, rfl⟩ := List.mem_map.1 hc
    exact lt_of_lt_of_le (List.mem_range.1 ha) hn
  · exact h c (List.mem_filter.1 hc).1

theorem planeFind_append (a : Nat) (m k : Memory) :
    planeFind a (m ++ k) = (planeFind a m).or (planeFind a k) := by
  induction m with
  | nil => rfl
  | cons d m ih =>
    obtain ⟨b, w⟩ := d
    simp only [List.cons_append, planeFind]
    split_ifs <;> simp [ih]

theorem planeFind_mapRange (a n : Nat) (v : Byte) :
    planeFind a ((List.range n).map (fun i => (i, v))) = if a < n then some v else none := by
  induction n with
  | zero => rfl
  | succ n ih =>
    rw [List.range_succ, List.map_append, planeFind_append, ih]
    simp only [List.map_cons, List.map_nil, planeFind]
    split_ifs <;> first | rfl | omega

theorem planeFind_filter {a n : Nat} (m : Memory) :
    planeFind a (m.filter (fun c => decide (n ≤ c.1))) = if n ≤ a then planeFind a m else none := by
  induction m with
  | nil => simp [planeFind]
  | cons d m ih =>
    obtain ⟨b, w⟩ := d
    by_cases hb : n ≤ b
    · simp only [List.filter_cons, hb, decide_true, if_true, planeFind, ih]
      split_ifs <;> first | rfl | omega
    · simp only [List.filter_cons, hb, decide_false, Bool.false_eq_true, if_false, planeFind, ih]
      split_ifs <;> first | rfl | omega

/-- What a filled memory holds: the fill byte below `n`, every other byte as before. -/
theorem planeFind_fill (a n : Nat) (v : Byte) (m : Memory) :
    planeFind a (planeFill n v m) = if a < n then some v else planeFind a m := by
  unfold planeFill
  rw [planeFind_append, planeFind_mapRange, planeFind_filter]
  split_ifs <;> simp; omega

@[simp] theorem State.setPlane_plane_same (s : State) (p : Plane) (m : Memory) : (s.setPlane p m).plane p = m := by
  cases p <;> rfl

theorem State.setPlane_plane_other (s : State) {p q : Plane} (m : Memory) (h : q ≠ p) :
    (s.setPlane p m).plane q = s.plane q := by
  cases p <;> cases q <;> first | rfl | exact absurd rfl h

/-- `byteAt` depends on the plane alone. -/
theorem State.byteAt_congr {s t : State} {p : Plane} (h : s.plane p = t.plane p) (a : Nat) :
    s.byteAt p a = t.byteAt p a := by
  simp [State.byteAt, h]

theorem State.byteAt_write_same (s : State) (p : Plane) (a : Nat) (v : Byte) :
    (s.setPlane p (planeWrite a v (s.plane p))).byteAt p a = v := by
  simp [State.byteAt, planeFind_write_same]

theorem State.byteAt_write_other (s : State) (p q : Plane) {a b : Nat} (v : Byte) (h : q ≠ p ∨ b ≠ a) :
    (s.setPlane p (planeWrite a v (s.plane p))).byteAt q b = s.byteAt q b := by
  by_cases hq : q = p
  · subst hq
    have hb : b ≠ a := by tauto
    simp [State.byteAt, planeFind_write_other v _ hb]
  · exact State.byteAt_congr (State.setPlane_plane_other s _ hq) b

theorem State.byteAt_fill (s : State) (p q : Plane) (n b : Nat) (v : Byte) :
    (s.setPlane p (planeFill n v (s.plane p))).byteAt q b =
      if q = p ∧ b < n then v else s.byteAt q b := by
  by_cases hq : q = p
  · subst hq
    by_cases hb : b < n <;> simp [State.byteAt, planeFind_fill, hb]
  · simp [hq, State.byteAt_congr (State.setPlane_plane_other s _ hq) b]

/-- FB_LEN depends on the configuration alone. -/
theorem State.fbLen_congr {s t : State} (h1 : s.cfgValid = t.cfgValid) (h2 : s.rows = t.rows)
    (h3 : s.cols = t.cols) : s.fbLen = t.fbLen := by
  simp [State.fbLen, h1, h2, h3]

@[simp] theorem State.fbLen_accept (s : State) (op : BitVec 4) : (s.accept op).fbLen = s.fbLen := rfl
@[simp] theorem State.fbLen_setPlane (s : State) (p : Plane) (m : Memory) : (s.setPlane p m).fbLen = s.fbLen := by
  cases p <;> rfl
@[simp] theorem State.fbLen_enterDrawing (s : State) : s.enterDrawing.fbLen = s.fbLen :=
  State.fbLen_congr (by simp) (by simp) (by simp)
@[simp] theorem State.fbLen_perform (s : State) (op : TransportOp) : (s.perform op).fbLen = s.fbLen :=
  State.fbLen_congr (by simp) (by simp) (by simp)
@[simp] theorem State.fbLen_pollBusy (s : State) : s.pollBusy.fbLen = s.fbLen :=
  State.fbLen_congr (by simp) (by simp) (by simp)

end Sys2Proof.Machine
end

