-- ==== Sys2Proof/Laws/Ops.lean ====
section
/-! SUPPORT. What each shared operation can do, said once: the events of an operation, advancing, performing,
polling, and the operation of a frame that is due. -/

namespace Sys2Proof.Machine

/-! ### Transfers and events -/

theorem cutTransfers_flatten {n : Nat} (hn : 0 < n) (fuel : Nat) (l : List Byte) (h : l.length ≤ fuel) :
    (cutTransfers n fuel l).flatten = l := by
  induction fuel generalizing l with
  | zero => simp [cutTransfers, List.length_eq_zero_iff.1 (Nat.le_zero.1 h)]
  | succ fuel ih =>
    cases l with
    | nil => rfl
    | cons b bs =>
      simp only [cutTransfers, List.flatten_cons]
      rw [ih _ (by simp only [List.length_drop, List.length_cons] at h ⊢; omega), List.take_append_drop]

/-- The transfers joined are the list, whatever the transfer size (20_memory.md R79). -/
theorem transfers_flatten_of_pos {n : Nat} (hn : 0 < n) (l : List Byte) : (transfers n l).flatten = l :=
  cutTransfers_flatten hn _ _ le_rfl

/-- The split into transfers does not show in a SendData's events (20_memory.md R79). -/
@[simp] theorem TransportOp.events_sendData (l : List Byte) :
    (TransportOp.sendData l).events = l.map Event.data := by
  have h := congrArg (List.map Event.data) (transfers_flatten_of_pos (n := Config.maxXfer) (by decide) l)
  rw [List.map_flatten] at h
  exact h

@[simp] theorem TransportOp.events_sendCmd (b : Byte) : (TransportOp.sendCmd b).events = [.cmd b] := rfl

@[simp] theorem TransportOp.events_resetPulse (ms : Nat) :
    (TransportOp.resetPulse ms).events = [.rstLow, .delay ms, .rstHigh, .delay ms] := rfl

@[simp] theorem TransportOp.events_busyWait : TransportOp.busyWait.events = [.waitReady] := rfl

/-- A failing operation leaves a prefix of its events (41_sequencer.md R160-R162). -/
@[simp] theorem State.emitFailed_trace (op : TransportOp) (k : Nat) (d : Bool) (s : State) :
    (s.emitFailed op k d).trace = s.trace ++ op.events.take k := by
  unfold State.emitFailed
  dsimp only
  split
  · rename_i h
    simp only [h, List.append_nil]
  · rfl

/-- Data bytes leave DC at 1 (20_memory.md R76). -/
theorem foldl_dcAfter_data (dc : Bool) {l : List Byte} (h : l ≠ []) : (l.map Event.data).foldl dcAfter dc = true := by
  induction l generalizing dc with
  | nil => exact absurd rfl h
  | cons b l ih =>
    cases l with
    | nil => rfl
    | cons c l => exact ih true (by simp)

/-- Data bytes leave RST_N as it is (41_sequencer.md R162). -/
theorem foldl_rstAfter_data (rstN : Bool) (l : List Byte) : (l.map Event.data).foldl rstAfter rstN = rstN := by
  induction l with
  | nil => rfl
  | cons b l ih => exact ih

/-! ### Checks at acceptance -/

theorem State.whenConfigured_true {s : State} {k : State → Result} (h : s.cfgValid = true) :
    s.whenConfigured k = k s := if_pos h

theorem State.whenConfigured_false {s : State} {k : State → Result} (h : s.cfgValid = false) :
    s.whenConfigured k = .next (s.reject .state) := if_neg (by simp [h])

theorem State.runCmd_ready {s : State} {seq : List TransportOp} {final : SeqState} (h : s.chipReady = true) :
    s.runCmd seq final = s.start seq final s.seqState := if_pos h

theorem State.runCmd_other {s : State} {seq : List TransportOp} {final : SeqState} (h : s.chipReady = false) :
    s.runCmd seq final = s.reject .state := if_neg (by simp [h])

theorem State.chipReady_iff {s : State} :
    s.chipReady = true ↔ s.seqState = .initialized ∨ s.seqState = .drawing := by
  simp [State.chipReady]

/-! ### The environment's answers -/

theorem State.takeOpAnswer_cons {s : State} {a : Config.OpAnswer} {rest : List Config.OpAnswer}
    (h : s.opScript = a :: rest) : s.takeOpAnswer = (a, { s with opScript := rest }) := by
  simp [State.takeOpAnswer, h]

theorem State.takePollAnswer_cons {s : State} {a : Config.PollAnswer} {rest : List Config.PollAnswer}
    (h : s.pollScript = a :: rest) : s.takePollAnswer = (a, { s with pollScript := rest }) := by
  simp [State.takePollAnswer, h]

/-! ### Advancing -/

/-- More operations remain: `step` counts the one that succeeded (41_sequencer.md R167). -/
theorem State.advance_more {s : State} (h : s.stepCount + 1 < s.seq.length) :
    s.advance = { s with
      stepCount := s.stepCount + 1
      seqState := s.midState (s.stepCount + 1)
      polls := if s.seq[s.stepCount + 1]? = some .busyWait then 0 else s.polls } := by
  unfold State.advance
  simp only [h, if_true]

/-- The last operation has succeeded: the request completes (41_sequencer.md R167). -/
theorem State.advance_last {s : State} (h : ¬ s.stepCount + 1 < s.seq.length) :
    s.advance = { s with
      stepCount := s.stepCount + 1
      seqState := s.finalState
      ready := true
      seq := [] } := by
  unfold State.advance
  simp only [h, if_false]

@[simp] theorem State.advance_stepCount (s : State) : s.advance.stepCount = s.stepCount + 1 := by
  unfold State.advance; dsimp only; split <;> rfl

/-! ### Performing and polling -/

/-- Everything a performed operation can do. -/
theorem State.perform_cases (s : State) (op : TransportOp) :
    (s.takeOpAnswer.1 = .ok ∧ s.perform op = (s.takeOpAnswer.2.emitAll op.events).advance) ∨
    (∃ k d, s.takeOpAnswer.1 = .err k d ∧
      s.perform op = (s.takeOpAnswer.2.emitFailed op k d).fail .transport) := by
  unfold State.perform
  obtain ⟨a, t, h⟩ : ∃ a t, s.takeOpAnswer = (a, t) := ⟨_, _, rfl⟩
  rw [h]
  cases a with
  | ok => exact .inl ⟨rfl, rfl⟩
  | err k d => exact .inr ⟨k, d, rfl, rfl⟩

theorem State.perform_ok {s : State} {rest : List Config.OpAnswer} (op : TransportOp)
    (h : s.opScript = .ok :: rest) :
    s.perform op = (({ s with opScript := rest } : State).emitAll op.events).advance := by
  simp [State.perform, State.takeOpAnswer_cons h]

theorem State.perform_err {s : State} {k : Nat} {d : Bool} {rest : List Config.OpAnswer} (op : TransportOp)
    (h : s.opScript = .err k d :: rest) :
    s.perform op = (({ s with opScript := rest } : State).emitFailed op k d).fail .transport := by
  simp [State.perform, State.takeOpAnswer_cons h]

/-- Everything a busy poll can do (41_sequencer.md R163). -/
theorem State.pollBusy_cases (s : State) :
    (s.pollBusy = s.takePollAnswer.2.fail .transport) ∨
    (s.busyMaxPolls = some (s.polls + 1) ∧
      s.pollBusy = ({ s.takePollAnswer.2 with polls := s.polls + 1 } : State).fail .timeout) ∨
    (s.busyMaxPolls ≠ some (s.polls + 1) ∧ s.pollBusy = { s.takePollAnswer.2 with polls := s.polls + 1 }) ∨
    (s.pollBusy = (s.takePollAnswer.2.emitAll [.waitReady]).advance) := by
  have hb : s.takePollAnswer.2.busyMaxPolls = s.busyMaxPolls := by simp
  have hp : s.takePollAnswer.2.polls = s.polls := by simp
  unfold State.pollBusy
  obtain ⟨a, t, h⟩ : ∃ a t, s.takePollAnswer = (a, t) := ⟨_, _, rfl⟩
  rw [h] at hb hp ⊢
  simp only at hb hp
  cases a with
  | err => exact .inl rfl
  | level pin =>
    simp only [hb, hp]
    split_ifs with h1 h2
    · exact .inr (.inl ⟨h2, rfl⟩)
    · exact .inr (.inr (.inl ⟨h2, rfl⟩))
    · exact .inr (.inr (.inr rfl))

theorem State.pollBusy_err {s : State} {rest : List Config.PollAnswer} (h : s.pollScript = .err :: rest) :
    s.pollBusy = ({ s with pollScript := rest } : State).fail .transport := by
  simp [State.pollBusy, State.takePollAnswer_cons h]

theorem State.pollBusy_ready {s : State} {rest : List Config.PollAnswer}
    (h : s.pollScript = .level false :: rest) :
    s.pollBusy = (({ s with pollScript := rest } : State).emitAll [.waitReady]).advance := by
  simp [State.pollBusy, State.takePollAnswer_cons h, Config.busyActive]

theorem State.pollBusy_busy {s : State} {rest : List Config.PollAnswer}
    (h : s.pollScript = .level true :: rest) (hb : s.busyMaxPolls ≠ some (s.polls + 1)) :
    s.pollBusy = { s with pollScript := rest, polls := s.polls + 1 } := by
  simp [State.pollBusy, State.takePollAnswer_cons h, Config.busyActive, hb]

theorem State.pollBusy_bound {s : State} {rest : List Config.PollAnswer}
    (h : s.pollScript = .level true :: rest) (hb : s.busyMaxPolls = some (s.polls + 1)) :
    s.pollBusy = ({ s with pollScript := rest, polls := s.polls + 1 } : State).fail .timeout := by
  simp [State.pollBusy, State.takePollAnswer_cons h, Config.busyActive, hb]

/-! ### Frames -/

/-- `Frame` with data is a SendCmd and a SendData (40_command_layer.md R120). -/
theorem frame_cons (op b : Byte) (bs : List Byte) :
    frame op (b :: bs) = [.sendCmd op, .sendData (b :: bs)] := rfl

/-- `Frame` without data is a SendCmd alone (90_conflicts.md C1). -/
@[simp] theorem frame_nil (op : Byte) : frame op [] = [.sendCmd op] := rfl

theorem frame_length (op : Byte) (data : List Byte) :
    (frame op data).length = if data = [] then 1 else 2 := by
  unfold frame; split <;> rfl

/-- The operation due of a frame is its SendCmd or its non-empty SendData. -/
theorem State.frameOp_cases (s : State) (op : Byte) (data : List Byte) :
    s.frameOp op data = .sendCmd op ∨ (data ≠ [] ∧ s.frameOp op data = .sendData data) := by
  unfold State.frameOp
  split
  · split_ifs with h
    · exact .inl rfl
    · exact .inr ⟨h, rfl⟩
  · exact .inl rfl

/-- At a SendCmd of SEQ the frame's command byte is due. -/
theorem State.frameOp_cmd {s : State} {b : Byte} (op : Byte) (data : List Byte)
    (h : s.seq[s.stepCount]? = some (.sendCmd b)) : s.frameOp op data = .sendCmd op := by
  simp [State.frameOp, h]

/-- At a SendData of SEQ the frame's data is due. -/
theorem State.frameOp_data {s : State} {l : List Byte} (op : Byte) {data : List Byte} (hd : data ≠ [])
    (h : s.seq[s.stepCount]? = some (.sendData l)) : s.frameOp op data = .sendData data := by
  simp [State.frameOp, h, hd]

/-- The frame an operation of SEQ belongs to is that operation's own: performing the frame at `step` performs
SEQ[step]. -/
theorem State.frameOp_of_frameAt {s : State} {op : Byte} {data : List Byte}
    (h : frameAt s.seq s.stepCount = some (op, data)) :
    s.seq[s.stepCount]? = some (s.frameOp op data) := by
  unfold frameAt at h
  unfold State.frameOp
  split at h
  · rename_i b hb
    split at h <;> simp only [Option.some.injEq, Prod.mk.injEq] at h <;> simp [hb, h.1]
  · exact absurd h (by simp)
  · rename_i l hl hne
    split at h
    · exact absurd h (by simp)
    · split at h
      · simp only [Option.some.injEq, Prod.mk.injEq] at h
        obtain ⟨rfl, rfl⟩ := h
        rw [hne]
        have : l ≠ [] := hl
        simp [this]
      · exact absurd h (by simp)
  · exact absurd h (by simp)

end Sys2Proof.Machine
end

