-- ==== Sys2Proof/Laws/Step.lean ====
section
/-! SUPPORT. What a bus frame's meaning is, everything a request's meaning can answer, and everything a step
can answer. -/

namespace Sys2Proof.Machine

/-! ### Bus frames -/

theorem fromLoHi_toNat (lo hi : Byte) : (fromLoHi lo hi).toNat = hi.toNat * 256 + lo.toNat := by
  unfold fromLoHi
  rw [BitVec.toNat_append, ← Nat.shiftLeft_add_eq_or_of_lt lo.isLt, Nat.shiftLeft_eq]

theorem fromLoHi_bytes (lo hi : Byte) : bytes16 (fromLoHi lo hi) = [lo, hi] := by
  have hl := lo.isLt
  have hh := hi.isLt
  have e := fromLoHi_toNat lo hi
  have h1 : lo8 (fromLoHi lo hi) = lo := by
    apply BitVec.eq_of_toNat_eq
    unfold lo8
    rw [BitVec.extractLsb'_toNat, e, Nat.shiftRight_zero]
    omega
  have h2 : hi8 (fromLoHi lo hi) = hi := by
    apply BitVec.eq_of_toNat_eq
    unfold hi8
    rw [BitVec.extractLsb'_toNat, e, Nat.shiftRight_eq_div_pow]
    omega
  simp [bytes16, h1, h2]

theorem setWidth_setWidth_of_lt {v : BitVec 16} (h : v.toNat < 1024) : (v.setWidth 10).setWidth 16 = v := by
  apply BitVec.eq_of_toNat_eq
  simp only [BitVec.toNat_setWidth, Nat.reducePow]
  omega

theorem fromLoHi_lt {lo hi : Byte} (h : hi.toNat < 4) : (fromLoHi lo hi).toNat < 1024 := by
  have h1 := lo.isLt
  rw [fromLoHi_toNat]
  omega

theorem windowBytes_fromLoHi {slo shi elo ehi : Byte} (hs : shi.toNat < 4) (he : ehi.toNat < 4) :
    windowBytes ((fromLoHi slo shi).setWidth 10) ((fromLoHi elo ehi).setWidth 10) = [slo, shi, elo, ehi] := by
  unfold windowBytes
  rw [setWidth_setWidth_of_lt (fromLoHi_lt hs), setWidth_setWidth_of_lt (fromLoHi_lt he),
    fromLoHi_bytes, fromLoHi_bytes]
  rfl

theorem frameData0_ok {op : Byte} {i j : Instr} {data : List Byte} (h : frameData0 op i data = .ok j) :
    data = [] ∧ j = i := by
  unfold frameData0 at h; split at h <;> simp_all

theorem frameData1_ok {op : Byte} {k : Byte → Instr} {j : Instr} {data : List Byte}
    (h : frameData1 op k data = .ok j) : ∃ a, data = [a] ∧ j = k a := by
  unfold frameData1 at h; split at h
  · exact ⟨_, rfl, by simpa using h.symm⟩
  · simp at h

theorem frameData2_ok {op : Byte} {k : BitVec 16 → Instr} {j : Instr} {data : List Byte}
    (h : frameData2 op k data = .ok j) : ∃ v, data = bytes16 v ∧ j = k v := by
  unfold frameData2 at h; split at h
  · exact ⟨_, (fromLoHi_bytes _ _).symm, by simpa using h.symm⟩
  · simp at h

theorem frameData3_ok {op : Byte} {k : BitVec 16 → Byte → Instr} {j : Instr} {data : List Byte}
    (h : frameData3 op k data = .ok j) : ∃ v c, data = bytes16 v ++ [c] ∧ j = k v c := by
  unfold frameData3 at h; split at h
  · exact ⟨_, _, by rw [fromLoHi_bytes]; rfl, by simpa using h.symm⟩
  · simp at h

theorem frameData4_ok {op : Byte} {k : BitVec 10 → BitVec 10 → Instr} {j : Instr} {data : List Byte}
    (h : frameData4 op k data = .ok j) : ∃ a b, data = windowBytes a b ∧ j = k a b := by
  unfold frameData4 at h; split at h
  · split_ifs at h with hb
    exact ⟨_, _, (windowBytes_fromLoHi hb.1 hb.2).symm, by simpa using h.symm⟩
  · simp at h

theorem frameData5_ok {op : Byte} {k : Byte → Byte → Byte → Byte → Byte → Instr} {j : Instr} {data : List Byte}
    (h : frameData5 op k data = .ok j) : ∃ a b c d e, data = [a, b, c, d, e] ∧ j = k a b c d e := by
  unfold frameData5 at h; split at h
  · exact ⟨_, _, _, _, _, rfl, by simpa using h.symm⟩
  · simp at h

theorem frameDataN_ok {op : Byte} {k : List Byte → Instr} {j : Instr} {data : List Byte}
    (h : frameDataN op k data = .ok j) : data ≠ [] ∧ j = k data := by
  unfold frameDataN at h; split at h <;> simp_all

/-- A decoded frame is the encoding of its instruction: no byte of it is dropped. -/
theorem encode_of_decodeFrame {op : Byte} {data : List Byte} {i : Instr} (h : decodeFrame op data = .ok i) :
    encode i = .frame op data := by
  have hop : op = BitVec.ofNat 8 op.toNat := by simp
  unfold decodeFrame at h
  split at h
  all_goals first
    | (rename_i e; rw [e] at hop; subst hop
       first
         | (obtain ⟨rfl, rfl⟩ := frameData0_ok h; rfl)
         | (obtain ⟨_, rfl, rfl⟩ := frameData1_ok h; rfl)
         | (obtain ⟨_, rfl, rfl⟩ := frameData2_ok h; rfl)
         | (obtain ⟨_, _, rfl, rfl⟩ := frameData3_ok h; rfl)
         | (obtain ⟨_, _, rfl, rfl⟩ := frameData4_ok h; rfl)
         | (obtain ⟨_, _, _, _, _, rfl, rfl⟩ := frameData5_ok h; rfl)
         | (obtain ⟨_, rfl⟩ := frameDataN_ok h; rfl))
    | simp at h

/-- The meaning of every bus frame: the operation of it that is due is performed. -/
theorem exec_frame {i : Instr} {op : Byte} {data : List Byte} (h : encode i = .frame op data) (s : State) :
    exec i s = .next (s.performFrame op data) := by
  cases i <;> simp only [encode, Words.frame.injEq, reduceCtorEq] at h <;> obtain ⟨rfl, rfl⟩ := h <;> rfl

theorem exec_of_decodeFrame {i : Instr} {op : Byte} {data : List Byte} (h : decodeFrame op data = .ok i)
    (s : State) : exec i s = .next (s.performFrame op data) :=
  exec_frame (encode_of_decodeFrame h) s

/-- A decoded frame's opcode is one of the 19 (40_command_layer.md R144). -/
theorem busOpcode_of_decodeFrame {i : Instr} {op : Byte} {data : List Byte} (h : decodeFrame op data = .ok i) :
    op ∈ busOpcodes := by
  have h' := encode_of_decodeFrame h
  cases i <;> simp only [encode, Words.frame.injEq, reduceCtorEq] at h' <;> rw [← h'.1] <;> decide

/-- A decoded request word is no bus frame. -/
theorem encode_of_decodeRequest {w : RequestWord} {i : Instr} (h : decodeRequest w = .ok i) :
    ∃ w', encode i = .request w' := by
  have nb : ∀ {lo : Nat} {j : Instr}, noBitsFrom w lo j = .ok i → i = j := by
    intro lo j hj; unfold noBitsFrom at hj; split_ifs at hj; simpa using hj.symm
  unfold decodeRequest at h
  split at h
  any_goals (obtain rfl := nb h; exact ⟨_, rfl⟩)
  · split_ifs at h; obtain rfl := nb h; exact ⟨_, rfl⟩
  · unfold decodeCmd at h
    split at h
    any_goals (obtain rfl := nb h; exact ⟨_, rfl⟩)
    simp at h
  · split_ifs at h; obtain rfl := nb h; exact ⟨_, rfl⟩
  · simp at h

/-! ### Requests -/

/-- The SEQ, `final_state` and entry STATE that a request starting at `s` may have. -/
inductive Starts (s : State) : BitVec 4 → List TransportOp → SeqState → SeqState → Prop where
  | reset (h : s.cfgValid = true) : Starts s 0x2 (resetSeq ++ initSeq s.rows s.cols) .initialized .hwReset
  | update (bw red : Bool) (mode : UpdateMode) (h : s.chipReady = true) :
      Starts s 0x3 (updateSeq bw red mode s) .drawing .updating
  | cmdFrame (op : Byte) (data : List Byte) (h : s.chipReady = true)
      (hd : (decodeFrame op data).toBool = true) : Starts s 0x7 (frame op data) s.seqState s.seqState
  | cmdSwReset (h : s.chipReady = true) : Starts s 0x7 (frameSwReset ++ [.busyWait]) .swReset s.seqState
  | cmdRefresh (h : s.chipReady = true) : Starts s 0x7 (frameRefresh ++ [.busyWait]) s.seqState s.seqState

/-- Everything the meaning of a request can answer with a next state. -/
inductive RequestNext (s : State) : Instr → State → Prop where
  | rejected (i : Instr) (op : BitVec 4) (e : ErrCode) (he : e = .state ∨ e = .config ∨ e = .bounds) :
      RequestNext s i ((s.accept op).reject e)
  | started (i : Instr) (op : BitVec 4) (seq : List TransportOp) (final entry : SeqState)
      (h : Starts s op seq final entry) : RequestNext s i ((s.accept op).start seq final entry)
  | configured (rows cols : BitVec 16) (rot : Rotation) (auto : Bool) (h : s.cfgValid = false)
      (hv : validDims rows cols = true) :
      RequestNext s (.configure rows cols rot auto) { s.accept 0x1 with
        rows := rows, cols := cols, rot := rot, autoUpdate := auto, cfgValid := true }
  | mapped (x y : BitVec 16) (h : s.cfgValid = true) (hb : s.inb x y = true) :
      RequestNext s (.map x y) { s.accept 0x6 with
        byteIndex := BitVec.ofNat 17 (s.mapAt x y).1, mask := (s.mapAt x y).2 }
  | pixelSet (p : Plane) (on : Bool) (x y : BitVec 16) (h : s.cfgValid = true) (hb : s.inb x y = true)
      (hi : (s.mapAt x y).1 < s.fbLen) :
      RequestNext s (.setPixel p on x y) ((s.accept 0x4).setPlane p (planeWrite (s.mapAt x y).1
        (pixelByte on (s.byteAt p (s.mapAt x y).1) (s.mapAt x y).2) (s.plane p))).enterDrawing
  | cleared (p : Plane) (dark : Bool) (h : s.cfgValid = true) :
      RequestNext s (.clear p dark) ((s.accept 0x5).setPlane p
        (planeFill s.fbLen (fillByte dark) (s.plane p))).enterDrawing
  | peeked (p : Plane) (index : BitVec 17) (h : s.cfgValid = true) (hi : index.toNat < s.fbLen) :
      RequestNext s (.peek p index) { s.accept 0x8 with data := s.byteAt p index.toNat }

theorem runCmd_next {s : State} {i : Instr} {seq : List TransportOp} {final : SeqState}
    (h : s.chipReady = true → Starts s 0x7 seq final s.seqState) :
    RequestNext s i ((s.accept 0x7).runCmd seq final) := by
  unfold State.runCmd
  have hc : (s.accept 0x7).chipReady = s.chipReady := rfl
  rw [hc]
  split_ifs with hr
  · exact .started i _ _ _ _ (h hr)
  · exact .rejected i _ _ (.inl rfl)

theorem windowEnd_hi8_lt (v : BitVec 16) : (hi8 (windowEnd v)).toNat < 4 := by
  have h : (windowEnd v).toNat < 1024 := by
    unfold windowEnd
    rw [BitVec.toNat_and]
    exact Nat.lt_of_le_of_lt Nat.and_le_right (by decide)
  unfold hi8
  simp only [BitVec.extractLsb'_toNat, Nat.shiftRight_eq_div_pow, Nat.reducePow]
  omega

theorem start_hi8_lt (v : BitVec 10) : (hi8 (v.setWidth 16)).toNat < 4 := by
  have h := v.isLt
  unfold hi8
  simp only [BitVec.extractLsb'_toNat, Nat.shiftRight_eq_div_pow, Nat.reducePow, BitVec.toNat_setWidth] at h ⊢
  omega

/-- A window frame the block sends is one of the 19 frames. -/
theorem decodeFrame_window {op : Byte} (hop : op = 0x44 ∨ op = 0x45) (start : BitVec 10) (stop : BitVec 16) :
    (decodeFrame op (bytes16 (start.setWidth 16) ++ bytes16 (windowEnd stop))).toBool = true := by
  have h1 := start_hi8_lt start
  have h2 := windowEnd_hi8_lt stop
  rcases hop with rfl | rfl <;>
    simp [decodeFrame, frameData4, bytes16, h1, h2, Except.toBool]

/-- Everything the meaning of a request can do: it answers one of these next states, or SET_PIXEL faults on an
index that does not exist. -/
theorem exec_request {i : Instr} {w : RequestWord} (hi : encode i = .request w) (s : State) :
    (∃ t, exec i s = .next t ∧ RequestNext s i t) ∨
    (exec i s = .fault .planeIndex ∧ ∃ p on x y, i = .setPixel p on x y ∧ s.cfgValid = true ∧
      s.inb x y = true ∧ ¬ (s.mapAt x y).1 < s.fbLen) := by
  cases i <;> simp only [encode, reduceCtorEq] at hi
  case configure rows cols rot auto =>
    left
    simp only [exec, execConfigure]
    split_ifs with h1 h2
    · exact ⟨_, rfl, .rejected _ _ _ (.inl rfl)⟩
    · exact ⟨_, rfl, .configured _ _ _ _ (by simpa using h1) h2⟩
    · exact ⟨_, rfl, .rejected _ _ _ (.inr (.inl rfl))⟩
  case reset =>
    left
    simp only [exec, execReset, State.whenConfigured]
    split_ifs with h1
    · exact ⟨_, rfl, .started _ _ _ _ _ (.reset h1)⟩
    · exact ⟨_, rfl, .rejected _ _ _ (.inl rfl)⟩
  case update bw red mode =>
    left
    simp only [exec, execUpdate]
    split_ifs with h1
    · exact ⟨_, rfl, .started _ _ _ _ _ (.update bw red mode h1)⟩
    · exact ⟨_, rfl, .rejected _ _ _ (.inl rfl)⟩
  case setPixel p on x y =>
    simp only [exec, execSetPixel, State.whenConfigured]
    split_ifs with h1 h2 h3
    · exact .inl ⟨_, rfl, .pixelSet p on x y h1 h2 h3⟩
    · exact .inr ⟨rfl, p, on, x, y, rfl, h1, h2, h3⟩
    · exact .inl ⟨_, rfl, .rejected _ _ _ (.inr (.inr rfl))⟩
    · exact .inl ⟨_, rfl, .rejected _ _ _ (.inl rfl)⟩
  case clear p dark =>
    left
    simp only [exec, execClear, State.whenConfigured]
    split_ifs with h1
    · exact ⟨_, rfl, .cleared p dark h1⟩
    · exact ⟨_, rfl, .rejected _ _ _ (.inl rfl)⟩
  case map x y =>
    left
    simp only [exec, execMap, State.whenConfigured]
    split_ifs with h1 h2
    · exact ⟨_, rfl, .mapped x y h1 h2⟩
    · exact ⟨_, rfl, .rejected _ _ _ (.inr (.inr rfl))⟩
    · exact ⟨_, rfl, .rejected _ _ _ (.inl rfl)⟩
  case peek p index =>
    left
    simp only [exec, execPeek, State.whenConfigured]
    split_ifs with h1 h2
    · exact ⟨_, rfl, .peeked p index h1 h2⟩
    · exact ⟨_, rfl, .rejected _ _ _ (.inr (.inr rfl))⟩
    · exact ⟨_, rfl, .rejected _ _ _ (.inl rfl)⟩
  case cmdSwReset => exact .inl ⟨_, rfl, runCmd_next fun h => .cmdSwReset h⟩
  case cmdRefresh => exact .inl ⟨_, rfl, runCmd_next fun h => .cmdRefresh h⟩
  case cmdRamXWindow start stop =>
    exact .inl ⟨_, rfl, runCmd_next fun h => .cmdFrame _ _ h (decodeFrame_window (.inl rfl) start stop)⟩
  case cmdRamYWindow start stop =>
    exact .inl ⟨_, rfl, runCmd_next fun h => .cmdFrame _ _ h (decodeFrame_window (.inr rfl) start stop)⟩
  all_goals exact .inl ⟨_, rfl, runCmd_next fun h => .cmdFrame _ _ h rfl⟩

/-! ### The step -/

/-- Everything a step can answer with a next state. -/
inductive StepNext (s : State) : State → Prop where
  /-- READY = 1 and no word presented: the block waits. -/
  | idle (hr : s.ready = true) (hq : s.requests = []) : StepNext s s
  /-- READY = 1 and an ILLEGAL word. -/
  | illegal (w : RequestWord) (rest : List RequestWord) (e : DecodeError) (hr : s.ready = true)
      (hq : s.requests = w :: rest) (hd : decodeRequest w = .error e) :
      StepNext s (({ s with requests := rest } : State).rejectIllegal w)
  /-- READY = 1 and a request. -/
  | request (w : RequestWord) (rest : List RequestWord) (i : Instr) (t : State) (hr : s.ready = true)
      (hq : s.requests = w :: rest) (hd : decodeRequest w = .ok i) (ht : exec i { s with requests := rest } = .next t)
      (hn : RequestNext { s with requests := rest } i t) : StepNext s t
  /-- READY = 0 and SEQ stands at a BusyWait. -/
  | poll (hr : s.ready = false) (hk : s.seq[s.stepCount]? = some .busyWait) : StepNext s s.pollBusy
  /-- READY = 0 and SEQ stands at a ResetPulse. -/
  | pulse (ms : Nat) (hr : s.ready = false) (hk : s.seq[s.stepCount]? = some (.resetPulse ms)) :
      StepNext s (s.perform (.resetPulse ms))
  /-- READY = 0 and SEQ stands at an operation of a frame. -/
  | framed (op : Byte) (data : List Byte) (i : Instr) (hr : s.ready = false)
      (hf : frameAt s.seq s.stepCount = some (op, data)) (hd : decodeFrame op data = .ok i)
      (hk : s.seq[s.stepCount]? = some (s.frameOp op data)) : StepNext s (s.perform (s.frameOp op data))

/-- The inversion lemma of the step. -/
theorem step_cases {s t : State} (h : step s = .next t) : StepNext s t := by
  have frameCase : s.ready = false → stepFrame s = .next t → StepNext s t := by
    intro hr hf
    unfold stepFrame at hf
    split at hf
    · exact absurd hf (by simp)
    · rename_i op data ha
      split at hf
      · rename_i i hd
        rw [exec_of_decodeFrame hd] at hf
        simp only [Host.Outcome.next.injEq] at hf
        subst hf
        exact .framed op data i hr ha hd (State.frameOp_of_frameAt ha)
      · exact absurd hf (by simp)
  unfold step at h
  split_ifs at h with hr
  · unfold stepIdle at h
    split at h
    · rename_i hq
      simp only [Host.Outcome.next.injEq] at h
      subst h
      exact .idle hr hq
    · rename_i w rest hq
      split at h
      · rename_i i hd
        obtain ⟨w', hw⟩ := encode_of_decodeRequest hd
        rcases exec_request hw { s with requests := rest } with ⟨u, hu, hn⟩ | ⟨hf, -⟩
        · have : u = t := by rw [hu] at h; simpa using h
          subst this
          exact .request w rest i u hr hq hd hu hn
        · rw [hf] at h; exact absurd h (by simp)
      · rename_i e hd
        simp only [Host.Outcome.next.injEq] at h
        subst h
        exact .illegal w rest e hr hq hd
  · have hr' : s.ready = false := by simpa using hr
    unfold stepBusy at h
    split at h
    · exact absurd h (by simp)
    · rename_i hk
      simp only [Host.Outcome.next.injEq] at h
      subst h
      exact .poll hr' hk
    · rename_i ms hk
      simp only [Host.Outcome.next.injEq] at h
      subst h
      exact .pulse ms hr' hk
    · exact frameCase hr' h
    · exact frameCase hr' h

/-- An operation due that is no busy-wait is performed (41_sequencer.md R167). -/
theorem step_perform {s : State} {op : TransportOp} (hr : s.ready = false) (hk : s.seq[s.stepCount]? = some op)
    (ho : opRuns s.seq s.stepCount = true) (hb : op ≠ .busyWait) : step s = .next (s.perform op) := by
  have key : (match frameAt s.seq s.stepCount with
        | none => false
        | some (o, d) => (decodeFrame o d).toBool) = true → stepFrame s = .next (s.perform op) := by
    intro h
    unfold stepFrame
    cases hf : frameAt s.seq s.stepCount with
    | none => rw [hf] at h; exact absurd h (by simp)
    | some p =>
      obtain ⟨o, d⟩ := p
      rw [hf] at h
      have e := State.frameOp_of_frameAt hf
      rw [hk] at e
      dsimp only at h ⊢
      cases hi : decodeFrame o d with
      | error _ => rw [hi] at h; exact absurd h (by simp [Except.toBool])
      | ok i =>
        dsimp only
        rw [exec_of_decodeFrame hi, State.performFrame, ← Option.some.inj e]
  unfold opRuns at ho
  unfold step stepBusy
  rw [if_neg (by simp [hr]), hk]
  rw [hk] at ho
  cases op with
  | busyWait => exact absurd rfl hb
  | resetPulse _ => rfl
  | sendCmd _ => exact key ho
  | sendData _ => exact key ho

/-- A busy-wait that is due is polled (41_sequencer.md R163). -/
theorem step_poll {s : State} (hr : s.ready = false) (hk : s.seq[s.stepCount]? = some .busyWait) :
    step s = .next s.pollBusy := by
  unfold step stepBusy
  rw [if_neg (by simp [hr]), hk]

/-! ### Runs -/

/-- One step, then the rest of the run. -/
theorem run_succ (M : Host.Core) {n : Nat} {s t : M.State} (h : M.step s = .next t) : M.run (n + 1) s = M.run n t := by
  simp only [Host.Core.run, h]

/-- A run after a run. -/
theorem run_add (M : Host.Core) {m n : Nat} {s t : M.State} (h : M.run m s = .next t) :
    M.run (m + n) s = M.run n t := by
  induction m generalizing s with
  | zero =>
    simp only [Host.Core.run, Host.Outcome.next.injEq] at h
    rw [Nat.zero_add, h]
  | succ m ih =>
    rw [Nat.add_right_comm]
    simp only [Host.Core.run] at h ⊢
    cases hs : M.step s with
    | next u => rw [hs] at h; exact ih h
    | fault _ => rw [hs] at h; exact absurd h (by simp)
    | refused _ => rw [hs] at h; exact absurd h (by simp)

end Sys2Proof.Machine
end

