-- ==== Sys2Proof/Laws/PerInstr.lean ====
section
/-! SUPPORT. One law for each instruction: its words are its row's of spec/opcode_table.json. -/

namespace Sys2Proof.Laws

/-- A field placed outside a mask's bits is invisible under the mask. -/
theorem place_and_eq_zero {n : Nat} (v : BitVec n) (lo : Nat) (m : RequestWord)
    (h : ∀ k : Fin 64, lo ≤ k.val → k.val < lo + n → m.getLsbD k.val = false) : place v lo &&& m = 0#64 := by
  apply BitVec.eq_of_getLsbD_eq
  intro k hk
  simp only [place, BitVec.getLsbD_and, BitVec.getLsbD_shiftLeft, BitVec.getLsbD_setWidth, BitVec.getLsbD_zero,
    Bool.and_eq_false_iff]
  by_cases h1 : lo ≤ k
  · by_cases h2 : k < lo + n
    · exact .inr (h ⟨k, hk⟩ h1 h2)
    · exact .inl (.inr (.inr (BitVec.getLsbD_of_ge _ _ (by omega))))
  · exact .inl (.inl (.inr (by simp; omega)))

/-- The row of spec/opcode_table.json of an instruction: a request row's match and mask, or a bus row's
command byte. -/
inductive Row where
  | request (pattern mask : RequestWord)
  | bus (op : Byte)

/-- An instruction's words are a row's. -/
def Row.Covers : Row → Words → Prop
  | .request pattern mask, .request w => w &&& mask = pattern
  | .bus op, .frame op' _ => op' = op
  | _, _ => False

/-- The row of each instruction, from spec/opcode_table.json. -/
def rowOf : Instr → Row
  | .configure .. => .request 0x0000000000000001 0xFFFFFF800000000F
  | .reset => .request 0x0000000000000002 0xFFFFFFFFFFFFFFFF
  | .update .. => .request 0x0000000000000003 0xFFFFFFFFFFFFFF8F
  | .setPixel .. => .request 0x0000000000000004 0xFFFFFFC00000000F
  | .clear .. => .request 0x0000000000000005 0xFFFFFFFFFFFFFFCF
  | .map .. => .request 0x0000000000000006 0xFFFFFFC00000003F
  | .peek .. => .request 0x0000000000000008 0xFFFFFFFFFF80002F
  | .cmdDriverOutput .. => .request 0x0000000000000017 0xFFFFFFF000000FFF
  | .cmdGateVoltage .. => .request 0x0000000000000037 0xFFFFFFFFFFF00FFF
  | .cmdBooster .. => .request 0x00000000000000C7 0xFFFFFFFFFFF00FFF
  | .cmdTempSensor .. => .request 0x0000000000000187 0xFFFFFFFFFFFFEFFF
  | .cmdSwReset => .request 0x0000000000000127 0xFFFFFFFFFFFFFFFF
  | .cmdDataEntry .. => .request 0x0000000000000117 0xFFFFFFFFFFF00FFF
  | .cmdRefresh => .request 0x0000000000000207 0xFFFFFFFFFFFFFFFF
  | .cmdUpdateOpt1 .. => .request 0x0000000000000217 0xFFFFFFFFFFF00FFF
  | .cmdUpdateOpt2 .. => .request 0x0000000000000227 0xFFFFFFFFFFF00FFF
  | .cmdRamXWindow .. => .request 0x0000000000000447 0xFFFFFFC000000FFF
  | .cmdRamYWindow .. => .request 0x0000000000000457 0xFFFFFFC000000FFF
  | .cmdFillBw .. => .request 0x0000000000000477 0xFFFFFFFFFFF00FFF
  | .cmdFillRed .. => .request 0x0000000000000467 0xFFFFFFFFFFF00FFF
  | .cmdRamXCounter .. => .request 0x00000000000004E7 0xFFFFFFFFF0000FFF
  | .cmdRamYCounter .. => .request 0x00000000000004F7 0xFFFFFFFFF0000FFF
  | .cmdBorder .. => .request 0x00000000000003C7 0xFFFFFFFFFFF00FFF
  | .cmdNop => .request 0x00000000000007F7 0xFFFFFFFFFFFFFFFF
  | .busDriverOutput .. => .bus 0x01
  | .busGateVoltage .. => .bus 0x03
  | .busBooster .. => .bus 0x0C
  | .busTempSensor .. => .bus 0x18
  | .busSwReset => .bus 0x12
  | .busDataEntry .. => .bus 0x11
  | .busRefresh => .bus 0x20
  | .busUpdateOpt1 .. => .bus 0x21
  | .busUpdateOpt2 .. => .bus 0x22
  | .busRamXWindow .. => .bus 0x44
  | .busRamYWindow .. => .bus 0x45
  | .busRamXCounter .. => .bus 0x4E
  | .busRamYCounter .. => .bus 0x4F
  | .busFillBw .. => .bus 0x47
  | .busFillRed .. => .bus 0x46
  | .busWriteBwRam .. => .bus 0x24
  | .busWriteRedRam .. => .bus 0x26
  | .busBorder .. => .bus 0x3C
  | .busNop => .bus 0x7F

/-- The family: every instruction's encoding is its table row's. -/
def TableRowOf.Statement (i : Instr) : Prop := (rowOf i).Covers (encode i)

theorem TableRowOf.configure (rows cols : BitVec 16) (rot : Rotation) (auto : Bool) : TableRowOf.Statement (.configure rows cols rot auto) := by
  show _ &&& _ = _
  simp only [placeBit, BitVec.and_comm, BitVec.and_or_distrib_left]
  simp only [BitVec.and_comm _ (place _ _)]
  repeat rw [place_and_eq_zero _ _ _ (by decide)]
  decide

theorem TableRowOf.reset : TableRowOf.Statement (.reset) := by
  show _ &&& _ = _
  decide

theorem TableRowOf.update (bw red : Bool) (mode : UpdateMode) : TableRowOf.Statement (.update bw red mode) := by
  show _ &&& _ = _
  simp only [placeBit, BitVec.and_comm, BitVec.and_or_distrib_left]
  simp only [BitVec.and_comm _ (place _ _)]
  repeat rw [place_and_eq_zero _ _ _ (by decide)]
  decide

theorem TableRowOf.setPixel (plane : Plane) (on : Bool) (x y : BitVec 16) : TableRowOf.Statement (.setPixel plane on x y) := by
  show _ &&& _ = _
  simp only [placeBit, BitVec.and_comm, BitVec.and_or_distrib_left]
  simp only [BitVec.and_comm _ (place _ _)]
  repeat rw [place_and_eq_zero _ _ _ (by decide)]
  decide

theorem TableRowOf.clear (plane : Plane) (dark : Bool) : TableRowOf.Statement (.clear plane dark) := by
  show _ &&& _ = _
  simp only [placeBit, BitVec.and_comm, BitVec.and_or_distrib_left]
  simp only [BitVec.and_comm _ (place _ _)]
  repeat rw [place_and_eq_zero _ _ _ (by decide)]
  decide

theorem TableRowOf.map (x y : BitVec 16) : TableRowOf.Statement (.map x y) := by
  show _ &&& _ = _
  simp only [BitVec.and_comm, BitVec.and_or_distrib_left]
  simp only [BitVec.and_comm _ (place _ _)]
  repeat rw [place_and_eq_zero _ _ _ (by decide)]
  decide

theorem TableRowOf.peek (plane : Plane) (index : BitVec 17) : TableRowOf.Statement (.peek plane index) := by
  show _ &&& _ = _
  simp only [placeBit, BitVec.and_comm, BitVec.and_or_distrib_left]
  simp only [BitVec.and_comm _ (place _ _)]
  repeat rw [place_and_eq_zero _ _ _ (by decide)]
  decide

theorem TableRowOf.cmdDriverOutput (gates : BitVec 16) (scan : Byte) : TableRowOf.Statement (.cmdDriverOutput gates scan) := by
  show _ &&& _ = _
  simp only [BitVec.and_comm, BitVec.and_or_distrib_left]
  simp only [BitVec.and_comm _ (place _ _)]
  repeat rw [place_and_eq_zero _ _ _ (by decide)]
  decide

theorem TableRowOf.cmdGateVoltage (vdv : Byte) : TableRowOf.Statement (.cmdGateVoltage vdv) := by
  show _ &&& _ = _
  simp only [BitVec.and_comm, BitVec.and_or_distrib_left]
  simp only [BitVec.and_comm _ (place _ _)]
  repeat rw [place_and_eq_zero _ _ _ (by decide)]
  decide

theorem TableRowOf.cmdBooster (inrush : Byte) : TableRowOf.Statement (.cmdBooster inrush) := by
  show _ &&& _ = _
  simp only [BitVec.and_comm, BitVec.and_or_distrib_left]
  simp only [BitVec.and_comm _ (place _ _)]
  repeat rw [place_and_eq_zero _ _ _ (by decide)]
  decide

theorem TableRowOf.cmdTempSensor (ext : Bool) : TableRowOf.Statement (.cmdTempSensor ext) := by
  show _ &&& _ = _
  simp only [placeBit, BitVec.and_comm, BitVec.and_or_distrib_left]
  simp only [BitVec.and_comm _ (place _ _)]
  repeat rw [place_and_eq_zero _ _ _ (by decide)]
  decide

theorem TableRowOf.cmdSwReset : TableRowOf.Statement (.cmdSwReset) := by
  show _ &&& _ = _
  decide

theorem TableRowOf.cmdDataEntry (val : Byte) : TableRowOf.Statement (.cmdDataEntry val) := by
  show _ &&& _ = _
  simp only [BitVec.and_comm, BitVec.and_or_distrib_left]
  simp only [BitVec.and_comm _ (place _ _)]
  repeat rw [place_and_eq_zero _ _ _ (by decide)]
  decide

theorem TableRowOf.cmdRefresh : TableRowOf.Statement (.cmdRefresh) := by
  show _ &&& _ = _
  decide

theorem TableRowOf.cmdUpdateOpt1 (val : Byte) : TableRowOf.Statement (.cmdUpdateOpt1 val) := by
  show _ &&& _ = _
  simp only [BitVec.and_comm, BitVec.and_or_distrib_left]
  simp only [BitVec.and_comm _ (place _ _)]
  repeat rw [place_and_eq_zero _ _ _ (by decide)]
  decide

theorem TableRowOf.cmdUpdateOpt2 (val : Byte) : TableRowOf.Statement (.cmdUpdateOpt2 val) := by
  show _ &&& _ = _
  simp only [BitVec.and_comm, BitVec.and_or_distrib_left]
  simp only [BitVec.and_comm _ (place _ _)]
  repeat rw [place_and_eq_zero _ _ _ (by decide)]
  decide

theorem TableRowOf.cmdRamXWindow (start : BitVec 10) (stop : BitVec 16) : TableRowOf.Statement (.cmdRamXWindow start stop) := by
  show _ &&& _ = _
  simp only [BitVec.and_comm, BitVec.and_or_distrib_left]
  simp only [BitVec.and_comm _ (place _ _)]
  repeat rw [place_and_eq_zero _ _ _ (by decide)]
  decide

theorem TableRowOf.cmdRamYWindow (start : BitVec 10) (stop : BitVec 16) : TableRowOf.Statement (.cmdRamYWindow start stop) := by
  show _ &&& _ = _
  simp only [BitVec.and_comm, BitVec.and_or_distrib_left]
  simp only [BitVec.and_comm _ (place _ _)]
  repeat rw [place_and_eq_zero _ _ _ (by decide)]
  decide

theorem TableRowOf.cmdFillBw (pat : Byte) : TableRowOf.Statement (.cmdFillBw pat) := by
  show _ &&& _ = _
  simp only [BitVec.and_comm, BitVec.and_or_distrib_left]
  simp only [BitVec.and_comm _ (place _ _)]
  repeat rw [place_and_eq_zero _ _ _ (by decide)]
  decide

theorem TableRowOf.cmdFillRed (pat : Byte) : TableRowOf.Statement (.cmdFillRed pat) := by
  show _ &&& _ = _
  simp only [BitVec.and_comm, BitVec.and_or_distrib_left]
  simp only [BitVec.and_comm _ (place _ _)]
  repeat rw [place_and_eq_zero _ _ _ (by decide)]
  decide

theorem TableRowOf.cmdRamXCounter (value : BitVec 16) : TableRowOf.Statement (.cmdRamXCounter value) := by
  show _ &&& _ = _
  simp only [BitVec.and_comm, BitVec.and_or_distrib_left]
  simp only [BitVec.and_comm _ (place _ _)]
  repeat rw [place_and_eq_zero _ _ _ (by decide)]
  decide

theorem TableRowOf.cmdRamYCounter (value : BitVec 16) : TableRowOf.Statement (.cmdRamYCounter value) := by
  show _ &&& _ = _
  simp only [BitVec.and_comm, BitVec.and_or_distrib_left]
  simp only [BitVec.and_comm _ (place _ _)]
  repeat rw [place_and_eq_zero _ _ _ (by decide)]
  decide

theorem TableRowOf.cmdBorder (val : Byte) : TableRowOf.Statement (.cmdBorder val) := by
  show _ &&& _ = _
  simp only [BitVec.and_comm, BitVec.and_or_distrib_left]
  simp only [BitVec.and_comm _ (place _ _)]
  repeat rw [place_and_eq_zero _ _ _ (by decide)]
  decide

theorem TableRowOf.cmdNop : TableRowOf.Statement (.cmdNop) := by
  show _ &&& _ = _
  decide

theorem TableRowOf.busDriverOutput (gates : BitVec 16) (scan : Byte) : TableRowOf.Statement (.busDriverOutput gates scan) := rfl

theorem TableRowOf.busGateVoltage (code : Byte) : TableRowOf.Statement (.busGateVoltage code) := rfl

theorem TableRowOf.busBooster (fixed0 fixed1 fixed2 fixed3 inrush : Byte) : TableRowOf.Statement (.busBooster fixed0 fixed1 fixed2 fixed3 inrush) := rfl

theorem TableRowOf.busTempSensor (sel : Byte) : TableRowOf.Statement (.busTempSensor sel) := rfl

theorem TableRowOf.busSwReset : TableRowOf.Statement (.busSwReset) := rfl

theorem TableRowOf.busDataEntry (val : Byte) : TableRowOf.Statement (.busDataEntry val) := rfl

theorem TableRowOf.busRefresh : TableRowOf.Statement (.busRefresh) := rfl

theorem TableRowOf.busUpdateOpt1 (val : Byte) : TableRowOf.Statement (.busUpdateOpt1 val) := rfl

theorem TableRowOf.busUpdateOpt2 (val : Byte) : TableRowOf.Statement (.busUpdateOpt2 val) := rfl

theorem TableRowOf.busRamXWindow (start stop : BitVec 10) : TableRowOf.Statement (.busRamXWindow start stop) := rfl

theorem TableRowOf.busRamYWindow (start stop : BitVec 10) : TableRowOf.Statement (.busRamYWindow start stop) := rfl

theorem TableRowOf.busRamXCounter (value : BitVec 16) : TableRowOf.Statement (.busRamXCounter value) := rfl

theorem TableRowOf.busRamYCounter (value : BitVec 16) : TableRowOf.Statement (.busRamYCounter value) := rfl

theorem TableRowOf.busFillBw (pat : Byte) : TableRowOf.Statement (.busFillBw pat) := rfl

theorem TableRowOf.busFillRed (pat : Byte) : TableRowOf.Statement (.busFillRed pat) := rfl

theorem TableRowOf.busWriteBwRam (bytes : List Byte) : TableRowOf.Statement (.busWriteBwRam bytes) := rfl

theorem TableRowOf.busWriteRedRam (bytes : List Byte) : TableRowOf.Statement (.busWriteRedRam bytes) := rfl

theorem TableRowOf.busBorder (val : Byte) : TableRowOf.Statement (.busBorder val) := rfl

theorem TableRowOf.busNop : TableRowOf.Statement (.busNop) := rfl

end Sys2Proof.Laws
end

