-- ==== Sys2Proof/Tests/Slice0.lean ====
section
/-! SUPPORT. Tests. Words and expected values come from the tables of spec/95_test_vectors.md and from
30_encoding.md R104; the last part gives, for each statement with hypotheses, a state that meets them. -/

open Sys2Proof Sys2Proof.Machine Sys2Proof.Claims

/-! ### Decoding: one word for each constructor (95_test_vectors.md sections 1.2, 2.1, 2.2, 2.4, 2.5) -/

theorem test_decode_configure :
    decodeRequest 0x0000007032001E01 = .ok (.configure 480 800 .deg270 true) := by decide
theorem test_decode_reset : decodeRequest 0x0000000000000002 = .ok .reset := by decide
theorem test_decode_update : decodeRequest 0x0000000000000053 = .ok (.update true false .slow) := by decide
theorem test_decode_setPixel :
    decodeRequest 0x0000000000400264 = .ok (.setPixel .bw true 9 1) := by decide
theorem test_decode_clear : decodeRequest 0x0000000000000025 = .ok (.clear .bw true) := by decide
theorem test_decode_map : decodeRequest 0x0000000000000206 = .ok (.map 8 0) := by decide
theorem test_decode_peek : decodeRequest 0x00000000000000C8 = .ok (.peek .bw 3) := by decide
theorem test_decode_cmdDriverOutput :
    decodeRequest 0x00000000001E0017 = .ok (.cmdDriverOutput 480 0) := by decide
theorem test_decode_cmdGateVoltage : decodeRequest 0x0000000000098037 = .ok (.cmdGateVoltage 152) := by decide
theorem test_decode_cmdBooster : decodeRequest 0x00000000000050C7 = .ok (.cmdBooster 5) := by decide
theorem test_decode_cmdTempSensor : decodeRequest 0x0000000000001187 = .ok (.cmdTempSensor true) := by decide
theorem test_decode_cmdSwReset : decodeRequest 0x0000000000000127 = .ok .cmdSwReset := by decide
theorem test_decode_cmdDataEntry : decodeRequest 0x0000000000003117 = .ok (.cmdDataEntry 3) := by decide
theorem test_decode_cmdRefresh : decodeRequest 0x0000000000000207 = .ok .cmdRefresh := by decide
theorem test_decode_cmdUpdateOpt1 : decodeRequest 0x0000000000000217 = .ok (.cmdUpdateOpt1 0) := by decide
theorem test_decode_cmdUpdateOpt2 : decodeRequest 0x00000000000F7227 = .ok (.cmdUpdateOpt2 0xF7) := by decide
theorem test_decode_cmdRamXWindow :
    decodeRequest 0x00000000C7C00447 = .ok (.cmdRamXWindow 0 799) := by decide
theorem test_decode_cmdRamYWindow :
    decodeRequest 0x0000000077C00457 = .ok (.cmdRamYWindow 0 479) := by decide
theorem test_decode_cmdFillBw : decodeRequest 0x0000000000066477 = .ok (.cmdFillBw 0x66) := by decide
theorem test_decode_cmdFillRed : decodeRequest 0x0000000000066467 = .ok (.cmdFillRed 0x66) := by decide
theorem test_decode_cmdRamXCounter :
    decodeRequest 0x00000000012344E7 = .ok (.cmdRamXCounter 0x1234) := by decide
theorem test_decode_cmdRamYCounter : decodeRequest 0x00000000000004F7 = .ok (.cmdRamYCounter 0) := by decide
theorem test_decode_cmdBorder : decodeRequest 0x00000000000013C7 = .ok (.cmdBorder 1) := by decide
theorem test_decode_cmdNop : decodeRequest 0x00000000000007F7 = .ok .cmdNop := by decide

/-! Bus frames: the traces of 95_test_vectors.md sections 2.3 to 2.5. -/

theorem test_decode_busDriverOutput :
    decodeFrame 0x01 [0xE0, 0x01, 0x00] = .ok (.busDriverOutput 480 0) := by decide
theorem test_decode_busGateVoltage : decodeFrame 0x03 [0x17] = .ok (.busGateVoltage 0x17) := by decide
theorem test_decode_busBooster :
    decodeFrame 0x0C [1, 2, 3, 4, 5] = .ok (.busBooster 1 2 3 4 5) := by decide
theorem test_decode_busTempSensor : decodeFrame 0x18 [0x80] = .ok (.busTempSensor 0x80) := by decide
theorem test_decode_busSwReset : decodeFrame 0x12 [] = .ok .busSwReset := by decide
theorem test_decode_busDataEntry : decodeFrame 0x11 [0x03] = .ok (.busDataEntry 3) := by decide
theorem test_decode_busRefresh : decodeFrame 0x20 [] = .ok .busRefresh := by decide
theorem test_decode_busUpdateOpt1 : decodeFrame 0x21 [0x00] = .ok (.busUpdateOpt1 0) := by decide
theorem test_decode_busUpdateOpt2 : decodeFrame 0x22 [0xB1] = .ok (.busUpdateOpt2 0xB1) := by decide
theorem test_decode_busRamXWindow :
    decodeFrame 0x44 [0x00, 0x00, 0x1F, 0x03] = .ok (.busRamXWindow 0 799) := by decide
theorem test_decode_busRamYWindow :
    decodeFrame 0x45 [0xFF, 0x03, 0xDF, 0x01] = .ok (.busRamYWindow 1023 479) := by decide
theorem test_decode_busRamXCounter : decodeFrame 0x4E [0x34, 0x12] = .ok (.busRamXCounter 0x1234) := by decide
theorem test_decode_busRamYCounter : decodeFrame 0x4F [0xFF, 0xFF] = .ok (.busRamYCounter 0xFFFF) := by decide
theorem test_decode_busFillBw : decodeFrame 0x47 [0x66] = .ok (.busFillBw 0x66) := by decide
theorem test_decode_busFillRed : decodeFrame 0x46 [0x66] = .ok (.busFillRed 0x66) := by decide
theorem test_decode_busWriteBwRam :
    decodeFrame 0x24 [0x7F, 0xFF, 0xFE] = .ok (.busWriteBwRam [0x7F, 0xFF, 0xFE]) := by decide
theorem test_decode_busWriteRedRam : decodeFrame 0x26 [0x80] = .ok (.busWriteRedRam [0x80]) := by decide
theorem test_decode_busBorder : decodeFrame 0x3C [0x01] = .ok (.busBorder 1) := by decide
theorem test_decode_busNop : decodeFrame 0x7F [] = .ok .busNop := by decide

/-- The ILLEGAL words of 95_test_vectors.md section 2.1. -/
theorem test_decode_illegal :
    [0x0#64, 0x9, 0xF, 0x12, 0x83, 0x0000008032001E01, 0x0000004000000004, 0x16, 0x28, 0x800008, 0x17F7,
      0x7, 0xFF7, 0x247, 0x267, 0x7F3, 0x3187, 0x0000004000000447, 0x0000001000000017].all
      (fun w => (decodeRequest w).toOption.isNone) = true := by decide

/-- Frames that are none of the 19: another opcode, a missing byte, a byte too many, a window byte above ten bits,
a RAM write without data. -/
theorem test_decode_badFrames :
    decodeFrame 0x02 [] = .error (.busOpcode 0x02) ∧ decodeFrame 0x22 [] = .error (.frameLength 0x22 0) ∧
    decodeFrame 0x7F [0] = .error (.frameLength 0x7F 1) ∧
    decodeFrame 0x44 [0, 4, 0, 0] = .error (.windowBits 0x44) ∧
    decodeFrame 0x24 [] = .error (.frameLength 0x24 0) := by decide

/-- The opcode table's rows, numbered as it numbers them. -/
theorem test_tableWord : decodeTableWord 64 0x2 = some .reset ∧ decodeTableWord 64 0x447 = some (.cmdRamXWindow 0 0) ∧
    decodeTableWord 8 0x7F = some .busNop ∧ decodeTableWord 8 0x01 = some (.busDriverOutput 0 0) ∧
    decodeTableWord 8 0x24 = some (.busWriteBwRam [0]) ∧ decodeTableWord 64 0x9 = none := by decide

/-- The words of 95_test_vectors.md, written by the encoder. -/
theorem test_encode :
    encode (.configure 480 800 .deg90 true) = .request 0x0000005032001E01 ∧
    encode (.setPixel .bw false 9 1) = .request 0x0000000000400244 ∧
    encode (.cmdRamYWindow 1023 65535) = .request 0x0000003FFFFFF457 ∧
    encode (.busRamXCounter 0x1234) = .frame 0x4E [0x34, 0x12] := by decide

/-! ### Ill-formed terms the checks refuse -/

theorem test_wf_sensorByte : WellFormed (.busTempSensor 0x48) = false := by decide
theorem test_wf_emptyPlane : WellFormed (.busWriteBwRam []) = false ∧ WellFormed (.busWriteRedRam []) = false := by
  decide
theorem test_wf_longPlane : planeLengthOk 81601 = false ∧ planeLengthOk 81600 = true := by decide

/-! ### One step (95_test_vectors.md sections 1.1, 1.2, 2.2 to 2.8) -/

namespace Sys2Proof.Tests

/-- What a meaning leaves in the registers it names. -/
def readAfter (r : Result) (n : BitVec 4) : Option RegWord :=
  match r with
  | .next t => some (t.readReg n)
  | _ => none

/-- What a meaning has appended to an empty trace. -/
def traceAfter (r : Result) : Option (List Event) :=
  match r with
  | .next t => some t.trace
  | _ => none

/-- A block configured for a native panel, with a rotation. -/
def panel (rows cols : BitVec 16) (rot : Rotation) : State :=
  { State.reset with cfgValid := true, rows := rows, cols := cols, rot := rot, lastOp := 1 }

/-- 16 × 3, both planes cleared to 0xFF, INITIALIZED. -/
def small : State :=
  { panel 3 16 .deg0 with
    seqState := .initialized, finalState := .initialized, lastOp := 2, stepCount := 23
    bw := planeFill 6 0xFF [], red := planeFill 6 0xFF [] }

/-- A CMD request running on `small`: update-option-2, both operations to be answered Ok. -/
def sending : State :=
  { small with
    ready := false, lastOp := 7, stepCount := 0, seq := [.sendCmd 0x22, .sendData [0xF7]]
    opScript := [.ok, .ok] }

/-- The same request, its command byte sent. -/
def sendingData : State := { sending with stepCount := 1, opScript := [.ok] }

/-- A refresh running on `small`, at its busy-wait. -/
def waiting (bound : Option Nat) (answers : List Config.PollAnswer) : State :=
  { small with
    ready := false, lastOp := 7, stepCount := 1, seq := [.sendCmd 0x20, .busyWait]
    busyMaxPolls := bound, pollScript := answers }

/-- A word presented to a state. -/
def present (s : State) (w : RequestWord) : State := { s with requests := [w] }

end Sys2Proof.Tests

open Sys2Proof.Tests

theorem test_configure_registers :
    readAfter (exec (.configure 480 800 .deg0 false) State.reset) 0 = some 0x00100003 ∧
    readAfter (exec (.configure 480 800 .deg0 false) State.reset) 2 = some 0x032001E0 ∧
    readAfter (exec (.configure 480 800 .deg0 false) State.reset) 4 = some 0x01E00320 ∧
    readAfter (exec (.configure 480 800 .deg0 false) State.reset) 5 = some 48000 := by decide

theorem test_configure_rejects :
    readAfter (exec (.configure 480 801 .deg0 false) State.reset) 0 = some 0x00100301 ∧
    readAfter (exec (.configure 681 960 .deg0 false) State.reset) 2 = some 0 := by decide

theorem test_reset_unconfigured : readAfter (exec .reset State.reset) 0 = some 0x00200201 := by decide

theorem test_reset_operations :
    resetSeq ++ initSeq 480 800 =
      [.resetPulse 10, .sendCmd 0x12, .busyWait, .sendCmd 0x47, .sendData [Config.fillPattern],
       .sendCmd 0x46, .sendData [Config.fillPattern], .sendCmd 0x01, .sendData [0xE0, 0x01, 0x00],
       .sendCmd 0x11, .sendData [0x03], .sendCmd 0x44, .sendData [0x00, 0x00, 0x1F, 0x03],
       .sendCmd 0x45, .sendData [0x00, 0x00, 0xDF, 0x01], .sendCmd 0x3C, .sendData [0x01],
       .sendCmd 0x18, .sendData [0x80], .sendCmd 0x22, .sendData [0xB1], .sendCmd 0x20, .busyWait] := by rfl

theorem test_update_operations :
    updateSeq true false .slow { small with bw := planeWrite 0 0x7F (planeWrite 5 0xFE small.bw) } =
      [.sendCmd 0x4E, .sendData [0, 0], .sendCmd 0x4F, .sendData [0, 0],
       .sendCmd 0x24, .sendData [0x7F, 0xFF, 0xFF, 0xFF, 0xFF, 0xFE],
       .sendCmd 0x22, .sendData [0xF7], .sendCmd 0x20, .busyWait] := by rfl

theorem test_map_rotations :
    readAfter (exec (.map 9 13) (panel 480 800 .deg0)) 1 = some 0x40000515 ∧
    readAfter (exec (.map 9 13) (panel 480 800 .deg90)) 1 = some 0x200003E6 ∧
    readAfter (exec (.map 9 13) (panel 480 800 .deg180)) 1 = some 0x0200B66A ∧
    readAfter (exec (.map 9 13) (panel 480 800 .deg270)) 1 = some 0x0400B799 := by decide

theorem test_map_largest :
    readAfter (exec (.map 959 679) (panel 680 960 .deg0)) 1 = some 0x01013EBF ∧
    readAfter (exec (.map 960 679) (panel 680 960 .deg0)) 0 = some 0x00600403 := by decide

theorem test_setPixel_on :
    (match exec (.setPixel .bw true 9 1) small with | .next t => some (t.byteAt .bw 3) | _ => none) = some 0xBF := by
  decide

theorem test_clear_then_peek :
    (match exec (.clear .red true) small with
      | .next t => (t.seqState, readAfter (exec (.peek .red 5) t) 6, readAfter (exec (.peek .bw 5) t) 6)
      | _ => (.unreset, none, none)) = (.drawing, some 0x00, some 0xFF) := by decide

theorem test_peek_bounds : readAfter (exec (.peek .bw 6) small) 0 = some 0x00800443 := by decide

theorem test_gateVoltage_codes :
    gateVoltageCode 119 = Config.gatePorCode ∧ gateVoltageCode 120 = Config.gateCode 0 ∧
    gateVoltageCode 152 = Config.gateCode 6 ∧ gateVoltageCode 153 = Config.gateCode 7 ∧
    gateVoltageCode 200 = Config.gateCode 16 ∧ gateVoltageCode 201 = Config.gatePorCode := by
  refine ⟨?_, ?_, ?_, ?_, ?_, ?_⟩ <;> rfl

theorem test_window_truncates :
    frameRamXWindow 0 1299 = [.sendCmd 0x44, .sendData [0x00, 0x00, 0x13, 0x01]] ∧
    frameRamYWindow 5 0x0405 = [.sendCmd 0x45, .sendData [0x05, 0x00, 0x05, 0x00]] := by decide

theorem test_step_sends : traceAfter (step sending) = some [.cmd 0x22] ∧
    traceAfter (step sendingData) = some [.data 0xF7] := by decide

theorem test_step_polls :
    (match step (waiting (some 2) [.level true]) with | .next t => (t.polls, t.ready) | _ => (0, true)) = (1, false) ∧
    readAfter (step (waiting (some 1) [.level true])) 0 = some 0x00701673 := by decide

/-! ### The hypotheses of the statements can be met -/

theorem witness_DecodeEncodeAgree :
    WellFormed (.peek .red 131071) = true ∧ WellFormed (.busTempSensor 0x30) = true ∧
    WellFormed (.busTempSensor 0x80) = true ∧ WellFormed (.busWriteBwRam [0x7F]) = true := by decide

theorem witness_EncodeDecodeAgree :
    decodeRequest 0x00000000007FFFD8 = .ok (.peek .red 131071) ∧ decodeRequest 0x7F7 = .ok .cmdNop := by decide

theorem witness_IllegalWordRejected :
    ((present small 0x83).ready = true ∧ (present small 0x83).requests = [0x83] ∧
      ∀ r ∈ requestRows, (0x83 : RequestWord) &&& r.mask ≠ r.pattern) ∧
    ((0x10 : RequestWord).extractLsb' 0 4 = 0x0#4 ∧ 9 ≤ ((0x9 : RequestWord).extractLsb' 0 4).toNat ∧
      9 ≤ ((0xF : RequestWord).extractLsb' 0 4).toNat) ∧
    ((0x247 : RequestWord).extractLsb' 0 4 = 0x7#4 ∧ (0x247 : RequestWord).extractLsb' 4 8 = 0x24#8) ∧
    (⟨0x187, 0xFFFFFFFFFFFFEFFF⟩ ∈ requestRows ∧
      (0x3187 : RequestWord) &&& selectorBits ⟨0x187, 0xFFFFFFFFFFFFEFFF⟩ = 0x187 ∧
      (0x3187 : RequestWord) &&& (0xFFFFFFFFFFFFEFFF &&& ~~~ selectorBits ⟨0x187, 0xFFFFFFFFFFFFEFFF⟩) ≠ 0) := by
  decide

theorem witness_StepRunsPresentedRequest :
    (present small 0x33).ready = true ∧ (present small 0x33).requests = 0x33 :: [] ∧
    decodeRequest 0x33 = .ok (.update true true .fast) := by decide

theorem witness_StepRunsFrameInProgress :
    sending.ready = false ∧ frameAt sending.seq sending.stepCount = some (0x22, [0xF7]) ∧
    frameAt sendingData.seq sendingData.stepCount = some (0x22, [0xF7]) ∧
    decodeFrame 0x22 [0xF7] = .ok (.busUpdateOpt2 0xF7) := by decide

theorem witness_RequestsHeldWhileBusy :
    (∃ t, step (present sending 0x2) = .next t) ∧ (present sending 0x2).ready = false ∧
    (∃ t, step (present small 0x2) = .next t) ∧ (present small 0x2).ready = true ∧ small.requests = [] :=
  ⟨⟨_, rfl⟩, by decide, ⟨_, rfl⟩, by decide, by decide⟩

theorem witness_ConfigureLatchesValidDimensions :
    State.reset.cfgValid = false ∧ dimsInRange 1 8 ∧ dimsInRange 680 960 ∧ ¬ dimsInRange 681 960 ∧
    ¬ dimsInRange 0 8 ∧ ¬ dimsInRange 680 961 ∧ ¬ dimsInRange 680 968 ∧ ¬ dimsInRange 1 7 ∧ small.cfgValid = true := by
  refine ⟨?_, ?_, ?_, ?_, ?_, ?_, ?_, ?_, ?_⟩ <;> first | decide | (unfold dimsInRange; decide)

theorem witness_ResetStartsTwentyThreeOperations : small.cfgValid = true := by decide

theorem witness_InitDependsOnDimensionsOnly :
    small.cfgValid = true ∧ (panel 3 16 .deg90).cfgValid = true ∧ (∃ t, exec .reset small = .next t) ∧
    (∃ v, exec .reset (panel 3 16 .deg90) = .next v) ∧ small.rows = (panel 3 16 .deg90).rows ∧
    small.cols = (panel 3 16 .deg90).cols := ⟨rfl, rfl, ⟨_, rfl⟩, ⟨_, rfl⟩, rfl, rfl⟩

theorem witness_UpdateStartsStream :
    small.seqState = .initialized ∧ ({ small with seqState := .drawing } : State).seqState = .drawing := by decide

theorem witness_ResetAndUpdateRefused :
    State.reset.cfgValid = false ∧ State.reset.seqState ≠ .initialized ∧ State.reset.seqState ≠ .drawing := by
  decide

theorem small_good : small.Good := by
  constructor
  · constructor <;> decide
  · constructor
    · decide
    · intro h; exact absurd h (by decide)
    · decide
    · decide
    · decide
    · decide
    · intro h; exact absurd h (by decide)

theorem sending_good : sending.Good := by
  constructor
  · constructor <;> decide
  · constructor
    · intro h; exact absurd h (by decide)
    · intro _; exact ⟨by decide, by decide, rfl, .inr (.inr (by decide))⟩
    · decide
    · decide
    · decide
    · decide
    · intro _ h; exact absurd h (by decide)

/-- A busy-wait under a bound of 2 is good, whatever the answers to come. -/
theorem waiting_good (answers : List Config.PollAnswer) : (waiting (some 2) answers).Good := by
  constructor
  · constructor
    · show small.bw.wf; decide
    · show small.red.wf; decide
    · exact small_good.storage.bwInside
    · exact small_good.storage.redInside
    · intro _; show validDims 3 16 = true; decide
    · intro h; exact absurd (show true = false from h) (by decide)
    · exact .inl ⟨rfl, rfl⟩
  · constructor
    · intro h; exact absurd (show false = true from h) (by decide)
    · intro _
      refine ⟨show 1 < 2 by decide, ?_, rfl, .inr (.inr ⟨rfl, rfl, .inr rfl⟩)⟩
      show ∀ k < 2, opRuns [.sendCmd 0x20, .busyWait] k = true
      decide
    · exact ⟨show 2 ≤ 23 by decide, show 1 ≤ 23 by decide⟩
    · intro h; rcases h with h | h <;> exact absurd (show ErrCode.none = _ from h) (by decide)
    · intro h; exact absurd (show true = false from h) (by decide)
    · show some 2 ≠ some 0; decide
    · intro _ _ n h
      show 0 < n
      have e : some 2 = some n := h
      cases e; decide

theorem witness_RequestOperationCounts :
    small.Good ∧ small.ready = true ∧ encode .cmdRefresh = .request 0x207 ∧
    (∃ t, exec .cmdRefresh small = .next t ∧ t.ready = false) ∧ encode (.map 0 0) = .request 0x6 ∧
    (∃ t, exec (.map 0 0) small = .next t ∧ t.ready = true) :=
  ⟨small_good, rfl, by decide, ⟨_, rfl, rfl⟩, by decide, ⟨_, rfl, rfl⟩⟩

theorem witness_MapWritesResult :
    (panel 3 16 .deg90).cfgValid = true ∧ insideLogical (panel 3 16 .deg90).rot 16 3 2 15 ∧
    insideLogical small.rot 16 3 15 2 := by
  refine ⟨rfl, ?_, ?_⟩ <;> (unfold insideLogical; decide)

theorem witness_PlaneRequestsRefused :
    State.reset.cfgValid = false ∧ small.cfgValid = true ∧ ¬ insideLogical small.rot 16 3 16 2 ∧
    ¬ insideLogical small.rot 16 3 15 3 ∧ ¬ insideLogical (panel 3 16 .deg90).rot 16 3 3 15 ∧
    small.rows.toNat * small.cols.toNat / 8 ≤ (6 : BitVec 17).toNat := by
  refine ⟨rfl, rfl, ?_, ?_, ?_, by decide⟩ <;> (unfold insideLogical; decide)

theorem witness_SetPixelWritesOneBit :
    small.cfgValid = true ∧ dimsInRange small.rows small.cols ∧ insideLogical small.rot 16 3 15 2 := by
  refine ⟨rfl, ?_, ?_⟩
  · unfold dimsInRange; decide
  · unfold insideLogical; decide

/-- 1 × 4 is no valid size; a block that held it would have no plane byte at all. -/
theorem witness_SetPixelFaultsOutsidePlane :
    (panel 1 4 .deg0).cfgValid = true ∧ insideLogical (panel 1 4 .deg0).rot 4 1 0 0 ∧
    (panel 1 4 .deg0).fbLen ≤ ((panel 1 4 .deg0).mapAt 0 0).1 := by
  refine ⟨rfl, ?_, by decide⟩
  unfold insideLogical; decide

theorem witness_ClearFillsOnePlane : small.cfgValid = true ∧ 5 < small.rows.toNat * small.cols.toNat / 8 := by decide

theorem witness_FillIsWritesInOrder : Memory.wf [(1, 0x00), (5, 0x7F), (6, 0xFF)] := by decide

theorem witness_PeekReadsOneByte :
    small.cfgValid = true ∧ (5 : BitVec 17).toNat < small.rows.toNat * small.cols.toNat / 8 := by decide

theorem witness_MapperIsNativePlacement :
    16 % 8 = 0 ∧ insideLogical .deg270 16 3 2 15 ∧ insideLogical .deg180 16 3 15 2 ∧ 15 < 16 ∧ 2 < 3 := by
  refine ⟨by decide, ?_, ?_, by decide, by decide⟩ <;> (unfold insideLogical; decide)

theorem witness_MapperStaysInPlane :
    dimsInRange 680 960 ∧ insideLogical .deg0 (960 : BitVec 16).toNat (680 : BitVec 16).toNat 959 679 := by
  constructor
  · unfold dimsInRange; decide
  · unfold insideLogical; decide

theorem witness_MapperIsBijection :
    16 % 8 = 0 ∧ insideLogical .deg90 16 3 2 15 ∧ 5 < 16 * 3 / 8 ∧ oneHot 0x80 = true ∧ oneHot 0x01 = true := by
  refine ⟨by decide, ?_, by decide, by decide, by decide⟩
  unfold insideLogical; decide

theorem witness_CmdStartsItsFrame :
    small.seqState = .initialized ∧ ({ small with seqState := .drawing } : State).seqState = .drawing := by decide

theorem witness_CmdRefusedElsewhere :
    isCmd .cmdNop = true ∧ isCmd (.cmdDriverOutput 0 0) = true ∧ State.reset.seqState ≠ .initialized ∧
    State.reset.seqState ≠ .drawing := by decide

theorem witness_GateVoltageTakesNearestStep :
    (120 ≤ (120 : Byte).toNat ∧ (200 : Byte).toNat ≤ 200) ∧ (119 : Byte).toNat < 120 ∧ 200 < (201 : Byte).toNat := by
  decide

theorem witness_FrameSendsCommandByte :
    sending.seq[sending.stepCount]? = some (.sendCmd 0x22) ∧ sending.opScript = .ok :: [.ok] := by decide

theorem witness_FrameSendsDataBytes :
    sendingData.seq[sendingData.stepCount]? = some (.sendData [0xF7]) ∧ sendingData.opScript = .ok :: [] ∧
    ([0x7F] : List Byte) ≠ [] := by decide

theorem witness_TransfersSplitData : 1 ≤ 1 ∧ (transfers 2 [1, 2, 3]).length = 2 := by decide

theorem witness_OperationSucceeds :
    due sending (.sendCmd 0x22) ∧ sending.opScript = .ok :: [.ok] ∧ sending.stepCount + 1 ≠ sending.seq.length ∧
    due sendingData (.sendData [0xF7]) ∧ sendingData.opScript = .ok :: [] ∧
    sendingData.stepCount + 1 = sendingData.seq.length := by
  refine ⟨?_, ?_, ?_, ?_, ?_, ?_⟩ <;> first | decide | (unfold due; decide)

theorem witness_TransportErrorEndsRequest :
    due ({ sending with opScript := [.err 0 true] } : State) (.sendCmd 0x22) ∧
    TransportOp.sendCmd 0x22 ≠ .busyWait ∧ due ({ sendingData with opScript := [.err 1 false] } : State) (.sendData [0xF7]) := by
  refine ⟨?_, by decide, ?_⟩ <;> (unfold due; decide)

theorem witness_FreeAnswersActAsScript :
    due ({ sending with opScript := [] } : State) (.sendCmd 0x22) ∧ due (waiting none []) .busyWait ∧
    (waiting none []).pollScript = [] := by
  refine ⟨?_, ?_, by decide⟩ <;> (unfold due; decide)

theorem witness_BusyWaitPolls :
    (waiting none []).ready = false ∧ (waiting none []).seq[(waiting none []).stepCount]? = some .busyWait ∧
    (waiting none [.level false]).pollScript = .level false :: [] ∧ (waiting none [.err]).pollScript = .err :: [] ∧
    (waiting (some 2) [.level true]).busyMaxPolls ≠ some ((waiting (some 2) [.level true]).polls + 1) ∧
    (waiting (some 1) [.level true]).busyMaxPolls = some ((waiting (some 1) [.level true]).polls + 1) := by decide

theorem witness_AdvanceFollowsSequence :
    sending.stepCount + 1 < sending.seq.length ∧ sendingData.seq.length ≤ sendingData.stepCount + 1 := by decide

theorem witness_BusyLineHoldsBlock :
    (waiting none (busyPolls 3 ++ [.level false])).ready = false ∧
    (waiting none (busyPolls 3 ++ [.level false])).seq[1]? = some .busyWait ∧
    (waiting none (busyPolls 3 ++ [.level false])).busyMaxPolls = none := by decide

theorem witness_BoundedWaitTimesOut :
    1 ≤ 1 ∧ (waiting (some 1) (busyPolls 1 ++ [])).ready = false ∧
    (waiting (some 1) (busyPolls 1 ++ [])).seq[1]? = some .busyWait ∧
    (waiting (some 1) (busyPolls 1 ++ [])).busyMaxPolls = some 1 ∧ (waiting (some 1) (busyPolls 1 ++ [])).polls = 0 ∧
    1 ≤ 3 ∧ (waiting (some 3) (busyPolls 3 ++ [.err])).ready = false ∧
    (waiting (some 3) (busyPolls 3 ++ [.err])).seq[1]? = some .busyWait ∧
    (waiting (some 3) (busyPolls 3 ++ [.err])).busyMaxPolls = some 3 ∧
    (waiting (some 3) (busyPolls 3 ++ [.err])).polls = 0 := by
  decide

theorem witness_SequenceRunsInOrder :
    sending.ready = false ∧ sending.err = .none ∧ sending.stepCount < sending.seq.length ∧
    (∀ k < sending.seq.length, opRuns sending.seq k = true) ∧
    sending.opScript = List.replicate ((sending.seq.drop 0).countP (fun op => op ≠ .busyWait)) .ok ++ [] ∧
    sending.pollScript = List.replicate ((sending.seq.drop 0).countP (fun op => op = .busyWait)) (.level false) ++ [] := by
  decide

/-- A configured block whose RESET sees one busy poll before the first Ready. -/
theorem witness_ResetCompletesInitialized :
    ∃ s t : State, s.cfgValid = true ∧ s.busyMaxPolls = none ∧ s.opScript = List.replicate 21 .ok ++ [] ∧
      s.pollScript = busyPolls 1 ++ .level false :: (busyPolls 0 ++ .level false :: []) ∧ exec .reset s = .next t :=
  ⟨{ small with
      opScript := List.replicate 21 .ok, pollScript := [.level true, .level false, .level false] },
    _, rfl, rfl, rfl, rfl, rfl⟩

theorem witness_ConfigurationRegisterFields :
    (7 ≤ (7 : BitVec 4).toNat ∧ 7 ≤ (15 : BitVec 4).toNat) ∧
    decodeRequest 0x0000000000800011 = .ok (.configure 1 8 .deg0 false) ∧
    ∃ t, step (present State.reset 0x0000000000800011) = .next t ∧ t.err = .none ∧
      State.reset.readReg 2 ≠ t.readReg 2 := ⟨by decide, by decide, _, rfl, rfl, by decide⟩

theorem witness_SizeRegistersFollowConfiguration :
    State.reset.cfgValid = false ∧ (panel 680 960 .deg90).cfgValid = true ∧ dimsInRange 680 960 ∧ dimsInRange 1 8 := by
  refine ⟨rfl, rfl, ?_, ?_⟩ <;> (unfold dimsInRange; decide)

theorem witness_StepKeepsStorage :
    (present small 0x2A4).StorageOk ∧ ∃ t, step (present small 0x2A4) = .next t ∧ t.seqState = .drawing := by
  refine ⟨?_, _, rfl, rfl⟩
  constructor <;> decide

theorem witness_StepKeepsGoodState :
    sending.Good ∧ (∃ t, step sending = .next t) ∧ (waiting (some 2) [.level true]).Good ∧
    ∃ t, step (waiting (some 2) [.level true]) = .next t :=
  ⟨sending_good, ⟨_, rfl⟩, waiting_good _, ⟨_, rfl⟩⟩

theorem witness_GoodStateGoesOn : small.Good ∧ sending.Good ∧ (waiting (some 2) []).Good :=
  ⟨small_good, sending_good, waiting_good []⟩

theorem witness_TraceHoldsBusOpcodesOnly :
    ({ sending with trace := [.cmd 0x4E, .data 0x02] } : State).TraceOk ∧
    ∃ t, step ({ sending with trace := [.cmd 0x4E, .data 0x02] } : State) = .next t := by
  refine ⟨?_, _, rfl⟩
  intro b hb
  have e : b = 0x4E := by simpa using hb
  subst e; decide

theorem witness_ConfigurationLatchedOnce :
    (∃ t, step (present small 0x0000000000800011) = .next t ∧ small.cfgValid = true) ∧
    ∃ t, step (present State.reset 0x0000000000800011) = .next t ∧ State.reset.cfgValid = false ∧ t.cfgValid = true :=
  ⟨⟨_, rfl, rfl⟩, _, rfl, rfl, rfl⟩

theorem witness_OnlyMapWritesResult :
    ∃ t, step (present small 0x6) = .next t ∧ (present small 0x6).readReg 1 ≠ t.readReg 1 := ⟨_, rfl, by decide⟩

theorem witness_OnlyPeekWritesData :
    ∃ t, step (present small 0x8) = .next t ∧ (present small 0x8).readReg 6 ≠ t.readReg 6 ∧
      (present small 0x8).ready = true ∧ (present small 0x8).requests = 0x8 :: [] ∧
      decodeRequest 0x8 = .ok (.peek .bw 0) ∧ t.err = .none :=
  ⟨_, rfl, by decide, rfl, rfl, by decide, rfl⟩

theorem witness_OnlyDrawingWritesPlanes :
    (∃ t, step (present small 0x25) = .next t ∧ t.byteAt .bw 5 ≠ (present small 0x25).byteAt .bw 5) ∧
    ∃ t, step (present small 0x264) = .next t ∧ t.byteAt .bw 1 ≠ (present small 0x264).byteAt .bw 1 :=
  ⟨⟨_, rfl, by decide⟩, _, rfl, by decide⟩

theorem witness_TraceOnlyGrows :
    (∃ t, step sending = .next t) ∧ ∃ t, step (present small 0x2) = .next t ∧ (present small 0x2).ready = true :=
  ⟨⟨_, rfl⟩, _, rfl, rfl⟩

theorem witness_StepCountsOperations :
    (∃ t, step small = .next t ∧ small.ready = true ∧ small.requests = []) ∧
    (∃ t, step (present small 0x2) = .next t ∧ (present small 0x2).requests ≠ []) ∧
    ∃ t, step sending = .next t ∧ sending.ready = false :=
  ⟨⟨_, rfl, rfl, rfl⟩, ⟨_, rfl, by decide⟩, _, rfl, rfl⟩

theorem witness_LastOpNamesAcceptedWord :
    (∃ t, step (present small 0x83) = .next t ∧ (present small 0x83).requests = 0x83 :: []) ∧
    ∃ t, step sending = .next t ∧ sending.ready = false := ⟨⟨_, rfl, rfl⟩, _, rfl, rfl⟩

theorem witness_ErrorsEachRequestRaises :
    (encode (.map 16 2) = .request 0x0000000000800406 ∧ ∃ t, exec (.map 16 2) small = .next t ∧ t.err = .bounds) ∧
    ∃ t, (waiting (some 1) [.level true]).ready = false ∧ step (waiting (some 1) [.level true]) = .next t ∧
      t.err ≠ (waiting (some 1) [.level true]).err :=
  ⟨⟨by decide, _, rfl, rfl⟩, _, rfl, rfl, by decide⟩

theorem witness_RejectionIsPrecise :
    (∃ t, step (present State.reset 0x2) = .next t ∧ t.err = .state) ∧
    (∃ t, step (present small 0x83) = .next t ∧ t.err = .illegal) ∧
    ∃ t, step (present small 0x188) = .next t ∧ t.err = .bounds := ⟨⟨_, rfl, rfl⟩, ⟨_, rfl, rfl⟩, _, rfl, rfl⟩

theorem witness_DeepSleepNeverEntered :
    small.seqState ≠ .deepSleep ∧ small.finalState ≠ .deepSleep ∧ ∃ t, step (present small 0x127) = .next t :=
  ⟨by decide, by decide, _, rfl⟩

theorem witness_AutoUpdateHasNoEffect : ∃ t, step (present small 0x33) = .next t := ⟨_, rfl⟩
end

namespace Sys2Proof.Machine

/-! ### The host registers

What each register shows, said once: its fields, by name, for every state. -/

section Registers

theorem State.readReg_status (s : State) : s.readReg 0 = s.statusWord := rfl
theorem State.readReg_result (s : State) : s.readReg 1 = s.resultWord := rfl
theorem State.readReg_cfgDims (s : State) : s.readReg 2 = s.cfgDimsWord := rfl
theorem State.readReg_cfgMode (s : State) : s.readReg 3 = s.cfgModeWord := rfl
theorem State.readReg_lsize (s : State) : s.readReg 4 = s.lsizeWord := rfl
theorem State.readReg_fblen (s : State) : s.readReg 5 = s.fblenWord := rfl
theorem State.readReg_data (s : State) : s.readReg 6 = s.dataWord := rfl

/-- The register numbers above DATA name no register (10_state.md R55). -/
theorem State.readReg_above {n : BitVec 4} (h : 7 ≤ n.toNat) (s : State) : s.readReg n = 0 := by
  unfold State.readReg
  split
  any_goals omega
  rfl

/-! A field of a register is reached from below: `extract_above` steps over one field under it. -/

theorem extract_above {v w start len : Nat} {a : BitVec v} {b : BitVec w} {c : BitVec len}
    (h : a.extractLsb' (start - w) len = c) (hw : w ≤ start := by decide) : (a ++ b).extractLsb' start len = c :=
  (BitVec.extractLsb'_append_eq_of_le hw).trans h

theorem bit_above {v w i : Nat} {a : BitVec v} {b : BitVec w} {c : Bool}
    (h : a.getLsbD (i - w) = c) (hw : ¬ i < w := by decide) : (a ++ b).getLsbD i = c :=
  (BitVec.getLsbD_append.trans (if_neg hw)).trans h

theorem State.statusWord_ready (s : State) : s.statusWord.getLsbD 0 = s.ready :=
  BitVec.getLsbD_append.trans (by simp)

theorem State.statusWord_cfgValid (s : State) : s.statusWord.getLsbD 1 = s.cfgValid :=
  bit_above <| BitVec.getLsbD_append.trans (by simp)

theorem State.statusWord_reserved_low (s : State) : s.statusWord.extractLsb' 2 2 = 0 :=
  extract_above <| extract_above <| BitVec.extractLsb'_append_eq_right

theorem State.statusWord_seqState (s : State) : s.statusWord.extractLsb' 4 4 = s.seqState.code :=
  extract_above <| extract_above <| extract_above <| BitVec.extractLsb'_append_eq_right

theorem State.statusWord_err (s : State) : s.statusWord.extractLsb' 8 4 = s.err.code :=
  extract_above <| extract_above <| extract_above <| extract_above <| BitVec.extractLsb'_append_eq_right

theorem State.statusWord_step (s : State) : s.statusWord.extractLsb' 12 8 = BitVec.ofNat 8 s.stepCount :=
  extract_above <| extract_above <| extract_above <| extract_above <| extract_above <|
    BitVec.extractLsb'_append_eq_right

theorem State.statusWord_lastOp (s : State) : s.statusWord.extractLsb' 20 4 = s.lastOp :=
  extract_above <| extract_above <| extract_above <| extract_above <| extract_above <| extract_above <|
    BitVec.extractLsb'_append_eq_right

theorem State.statusWord_reserved_high (s : State) : s.statusWord.extractLsb' 24 8 = 0 :=
  extract_above <| extract_above <| extract_above <| extract_above <| extract_above <| extract_above <|
    BitVec.extractLsb'_append_eq_left

theorem State.resultWord_byteIndex (s : State) : s.resultWord.extractLsb' 0 17 = s.byteIndex :=
  BitVec.extractLsb'_append_eq_right

theorem State.resultWord_reserved (s : State) : s.resultWord.extractLsb' 17 7 = 0 :=
  extract_above <| BitVec.extractLsb'_append_eq_right

theorem State.resultWord_mask (s : State) : s.resultWord.extractLsb' 24 8 = s.mask :=
  extract_above <| BitVec.extractLsb'_append_eq_left

theorem State.cfgDimsWord_rows (s : State) : s.cfgDimsWord.extractLsb' 0 16 = s.rows :=
  BitVec.extractLsb'_append_eq_right

theorem State.cfgDimsWord_cols (s : State) : s.cfgDimsWord.extractLsb' 16 16 = s.cols :=
  BitVec.extractLsb'_append_eq_left

theorem State.cfgModeWord_rot (s : State) : s.cfgModeWord.extractLsb' 0 2 = s.rot.bits :=
  BitVec.extractLsb'_append_eq_right

theorem State.cfgModeWord_autoUpdate (s : State) : s.cfgModeWord.getLsbD 2 = s.autoUpdate :=
  bit_above <| BitVec.getLsbD_append.trans (by simp)

theorem State.cfgModeWord_reserved (s : State) : s.cfgModeWord.extractLsb' 3 29 = 0 :=
  extract_above <| BitVec.extractLsb'_append_eq_left

theorem State.lsizeWord_width (s : State) : s.lsizeWord.extractLsb' 0 16 = BitVec.ofNat 16 s.lsize.1 :=
  BitVec.extractLsb'_append_eq_right

theorem State.lsizeWord_height (s : State) : s.lsizeWord.extractLsb' 16 16 = BitVec.ofNat 16 s.lsize.2 :=
  BitVec.extractLsb'_append_eq_left

theorem State.fblenWord_length (s : State) : s.fblenWord.extractLsb' 0 17 = BitVec.ofNat 17 s.fbLen :=
  BitVec.extractLsb'_append_eq_right

theorem State.fblenWord_reserved (s : State) : s.fblenWord.extractLsb' 17 15 = 0 :=
  BitVec.extractLsb'_append_eq_left

theorem State.dataWord_byte (s : State) : s.dataWord.extractLsb' 0 8 = s.data :=
  BitVec.extractLsb'_append_eq_right

theorem State.dataWord_reserved (s : State) : s.dataWord.extractLsb' 8 24 = 0 :=
  BitVec.extractLsb'_append_eq_left

theorem State.dataWord_toNat (s : State) : s.dataWord.toNat = s.data.toNat :=
  (BitVec.toNat_append _ _).trans (by simp)

theorem State.fblenWord_toNat (s : State) : s.fblenWord.toNat = s.fbLen % 2 ^ 17 :=
  (BitVec.toNat_append _ _).trans (by simp)

/-! ### The derived sizes -/

/-- No configuration, no size (10_state.md R51). -/
theorem State.lsize_unconfigured {s : State} (h : s.cfgValid = false) : s.lsize = (0, 0) := by
  simp [State.lsize, h]

/-- No configuration, no plane bytes (10_state.md R52). -/
theorem State.fbLen_unconfigured {s : State} (h : s.cfgValid = false) : s.fbLen = 0 := by
  simp [State.fbLen, h]

theorem State.fbLen_configured {s : State} (h : s.cfgValid = true) :
    s.fbLen = s.rows.toNat * s.cols.toNat / 8 := if_pos h

theorem State.lsize_configured {s : State} (h : s.cfgValid = true) :
    s.lsize = logicalSize s.rot s.cols.toNat s.rows.toNat := if_pos h

/-- The size is swapped for 90 and 270 degrees (10_state.md R51). -/
theorem logicalSize_eq (rot : Rotation) (W H : Nat) :
    logicalSize rot W H = if rot = .deg0 ∨ rot = .deg180 then (W, H) else (H, W) := by
  cases rot <;> rfl

open Sys2Proof.Claims

/-- `valid(rows, cols)` is the range of 41_sequencer.md R171. -/
theorem validDims_iff (rows cols : BitVec 16) : validDims rows cols = true ↔ dimsInRange rows cols := by
  simp only [validDims, dimsInRange, Bool.and_eq_true, decide_eq_true_eq, and_assoc]
  exact Iff.rfl

/-- The division by 8 is exact, because `cols` is a multiple of 8 (10_state.md R52). -/
theorem planeBytes_exact {rows cols : BitVec 16} (h : dimsInRange rows cols) :
    rows.toNat * cols.toNat / 8 * 8 = rows.toNat * cols.toNat := by
  obtain ⟨-, -, -, -, hmod⟩ := h
  exact Nat.div_mul_cancel (Dvd.dvd.mul_left (Nat.dvd_of_mod_eq_zero hmod) _)

/-- The largest panel has 680 * 960 / 8 bytes (10_state.md R52). -/
theorem planeBytes_le {rows cols : BitVec 16} (h : dimsInRange rows cols) :
    rows.toNat * cols.toNat / 8 ≤ 81600 := by
  obtain ⟨-, hrows, -, hcols, -⟩ := h
  exact Nat.div_le_div_right (c := 8) (Nat.mul_le_mul hrows hcols)

end Registers

/-! ### Waiting, accepting, performing -/

section StepByReady

/-- The step that takes a legal word is that request's meaning (41_sequencer.md R166). -/
theorem step_of_request {s : State} {w : RequestWord} {rest : List RequestWord} {i : Instr}
    (hr : s.ready = true) (hq : s.requests = w :: rest) (hd : decodeRequest w = .ok i) :
    step s = exec i { s with requests := rest } := by
  simp [step, stepIdle, hr, hq, hd]

variable {s t : State}

/-- With READY = 1 and no word presented nothing happens (70_reset_and_hazards.md R281). -/
theorem step_waits (h : step s = .next t) (hr : s.ready = true) (hq : s.requests = []) : t = s := by
  simp only [step, hr, if_true, stepIdle, hq, Host.Outcome.next.injEq] at h
  exact h.symm

/-- With READY = 1 a presented word is taken: an ILLEGAL one rejected, any other run (41_sequencer.md R166). -/
theorem step_accepts {w : RequestWord} {rest : List RequestWord} (h : step s = .next t) (hr : s.ready = true)
    (hq : s.requests = w :: rest) :
    t = ({ s with requests := rest } : State).rejectIllegal w ∨
    ∃ i, decodeRequest w = .ok i ∧ exec i { s with requests := rest } = .next t := by
  cases hd : decodeRequest w with
  | error e =>
    unfold step at h
    rw [if_pos hr] at h
    simp only [stepIdle, hq, hd, Host.Outcome.next.injEq] at h
    exact .inl h.symm
  | ok i => exact .inr ⟨i, rfl, step_of_request hr hq hd ▸ h⟩

/-- With READY = 0 the operation due is performed, a busy-wait polled (41_sequencer.md R167). -/
theorem step_performs (h : step s = .next t) (hr : s.ready = false) :
    (∃ op, s.seq[s.stepCount]? = some op ∧ t = s.perform op) ∨
    (s.seq[s.stepCount]? = some .busyWait ∧ t = s.pollBusy) := by
  cases step_cases h with
  | idle hr' _ => simp [hr] at hr'
  | illegal _ _ _ hr' _ _ => simp [hr] at hr'
  | request _ _ _ _ hr' _ _ _ _ => simp [hr] at hr'
  | poll _ hk => exact .inr ⟨hk, rfl⟩
  | pulse ms _ hk => exact .inl ⟨_, hk, rfl⟩
  | framed op data i _ _ _ hk => exact .inl ⟨_, hk, rfl⟩

/-- The next state of a legal word is one that requests can have. -/
theorem requestNext_of_exec {w : RequestWord} {i : Instr} (hd : decodeRequest w = .ok i) (h : exec i s = .next t) :
    RequestNext s i t := by
  obtain ⟨w', hw⟩ := encode_of_decodeRequest hd
  rcases exec_request hw s with ⟨u, hu, hn⟩ | ⟨hf, -⟩
  · rw [hu, Host.Outcome.next.injEq] at h
    exact h ▸ hn
  · simp [hf] at h

end StepByReady

/-! ### What a step does to the configuration, RESULT and DATA -/

section StoredRegisters

/-- The fields behind CFG_VALID, CFG_DIMS, CFG_MODE, RESULT and DATA are the same. -/
structure SameRegisters (s t : State) : Prop where
  cfgValid : t.cfgValid = s.cfgValid
  rows : t.rows = s.rows
  cols : t.cols = s.cols
  rot : t.rot = s.rot
  autoUpdate : t.autoUpdate = s.autoUpdate
  byteIndex : t.byteIndex = s.byteIndex
  mask : t.mask = s.mask
  data : t.data = s.data

namespace SameRegisters

variable {s t : State}

theorem resultWord (h : SameRegisters s t) : t.resultWord = s.resultWord := by
  simp [State.resultWord, h.byteIndex, h.mask]

theorem cfgDimsWord (h : SameRegisters s t) : t.cfgDimsWord = s.cfgDimsWord := by
  simp [State.cfgDimsWord, h.rows, h.cols]

theorem cfgModeWord (h : SameRegisters s t) : t.cfgModeWord = s.cfgModeWord := by
  simp [State.cfgModeWord, h.rot, h.autoUpdate]

theorem dataWord (h : SameRegisters s t) : t.dataWord = s.dataWord := by
  simp [State.dataWord, h.data]

theorem refl (s : State) : SameRegisters s s := by constructor <;> rfl

/-- No transport operation writes them, whatever the environment answers. -/
theorem perform (s : State) (op : TransportOp) : SameRegisters s (s.perform op) := by constructor <;> simp

theorem pollBusy (s : State) : SameRegisters s s.pollBusy := by constructor <;> simp

theorem rejectIllegal (s : State) (rest : List RequestWord) (w : RequestWord) :
    SameRegisters s (({ s with requests := rest } : State).rejectIllegal w) := by constructor <;> rfl

end SameRegisters

/-- Everything a step can do to the configuration, RESULT and DATA: keep them, or one of the three writes of a
request that succeeds. -/
inductive StepRegisters (s : State) : State → Prop where
  | kept {t : State} (h : SameRegisters s t) : StepRegisters s t
  /-- a successful CONFIGURE (41_sequencer.md R170) -/
  | configured (w : RequestWord) (rest : List RequestWord) (rows cols : BitVec 16) (rot : Rotation) (auto : Bool)
      (hr : s.ready = true) (hq : s.requests = w :: rest) (hd : decodeRequest w = .ok (.configure rows cols rot auto))
      (h : s.cfgValid = false) (hv : validDims rows cols = true) :
      StepRegisters s { ({ s with requests := rest } : State).accept 0x1 with
        rows := rows, cols := cols, rot := rot, autoUpdate := auto, cfgValid := true }
  /-- a successful MAP (42_mapping.md R200) -/
  | mapped (w : RequestWord) (rest : List RequestWord) (x y : BitVec 16) (index : BitVec 17) (mask : Byte)
      (hr : s.ready = true) (hq : s.requests = w :: rest) (hd : decodeRequest w = .ok (.map x y)) :
      StepRegisters s { ({ s with requests := rest } : State).accept 0x6 with byteIndex := index, mask := mask }
  /-- a successful PEEK (43_framebuffer.md R234) -/
  | peeked (w : RequestWord) (rest : List RequestWord) (p : Plane) (index : BitVec 17) (b : Byte)
      (hr : s.ready = true) (hq : s.requests = w :: rest) (hd : decodeRequest w = .ok (.peek p index)) :
      StepRegisters s { ({ s with requests := rest } : State).accept 0x8 with data := b }

/-- A request that succeeds writes them only in a CONFIGURE, a MAP or a PEEK. -/
theorem stepRegisters_of_request {s t : State} {w : RequestWord} {rest : List RequestWord} {i : Instr}
    (hr : s.ready = true) (hq : s.requests = w :: rest) (hd : decodeRequest w = .ok i)
    (hn : RequestNext { s with requests := rest } i t) : StepRegisters s t := by
  cases hn with
  | rejected i op e he => exact .kept (by constructor <;> rfl)
  | started i op seq final entry h => exact .kept (by constructor <;> rfl)
  | configured rows cols rot auto h hv => exact .configured w rest rows cols rot auto hr hq hd h hv
  | mapped x y h hb => exact .mapped w rest x y _ _ hr hq hd
  | pixelSet p on x y h hb hi => exact .kept (by constructor <;> simp)
  | cleared p dark h => exact .kept (by constructor <;> simp)
  | peeked p index h hi => exact .peeked w rest p index _ hr hq hd

theorem step_registers {s t : State} (h : step s = .next t) : StepRegisters s t := by
  cases step_cases h with
  | idle hr hq => exact .kept (.refl s)
  | illegal w rest e hr hq hd => exact .kept (.rejectIllegal s rest w)
  | request w rest i t hr hq hd ht hn => exact stepRegisters_of_request hr hq hd hn
  | poll hr hk => exact .kept (.pollBusy s)
  | pulse ms hr hk => exact .kept (.perform s _)
  | framed op data i hr hf hd hk => exact .kept (.perform s _)

/-! ### What a successful CONFIGURE and a successful PEEK leave -/

/-- A CONFIGURE that records no error has latched its operands (41_sequencer.md R170). -/
theorem execConfigure_success {s t : State} {rows cols : BitVec 16} {rot : Rotation} {auto : Bool}
    (h : exec (.configure rows cols rot auto) s = .next t) (he : t.err = .none) :
    t.rows = rows ∧ t.cols = cols ∧ t.rot = rot ∧ t.autoUpdate = auto := by
  simp only [exec, execConfigure] at h
  split_ifs at h <;> cases h
  · exact absurd he (by simp)
  · exact ⟨rfl, rfl, rfl, rfl⟩
  · exact absurd he (by simp)

/-- A PEEK that records no error has put the plane byte in DATA (43_framebuffer.md R234). -/
theorem execPeek_success {s t : State} {p : Plane} {index : BitVec 17}
    (h : exec (.peek p index) s = .next t) (he : t.err = .none) : t.data = s.byteAt p index.toNat := by
  simp only [exec, execPeek, State.whenConfigured] at h
  split_ifs at h <;> cases h
  · rfl
  · exact absurd he (by simp)
  · exact absurd he (by simp)

end StoredRegisters

/-! ### LAST_OP -/

section LastOp

/-- The OP code of a request (30_encoding.md R91); 0 for a bus frame, which has none. -/
def requestOp (i : Instr) : BitVec 4 :=
  if Claims.isCmd i then 0x7 else
  match i with
  | .configure .. => 0x1
  | .reset => 0x2
  | .update .. => 0x3
  | .setPixel .. => 0x4
  | .clear .. => 0x5
  | .map .. => 0x6
  | .peek .. => 0x8
  | _ => 0x0

theorem noBitsFrom_ok {w : RequestWord} {lo : Nat} {i j : Instr} (h : noBitsFrom w lo i = .ok j) : j = i := by
  unfold noBitsFrom at h
  split_ifs at h
  exact (Except.ok.inj h).symm

/-- Every selector's row is a CMD form (30_encoding.md R99). -/
theorem isCmd_of_decodeCmd {w : RequestWord} {i : Instr} (h : decodeCmd w = .ok i) : Claims.isCmd i = true := by
  unfold decodeCmd at h
  split at h
  any_goals (obtain rfl := noBitsFrom_ok h; rfl)
  cases h

theorem requestOp_of_isCmd {i : Instr} (h : Claims.isCmd i = true) : requestOp i = 0x7 := if_pos h

/-- A word decodes to a request with the word's own OP field (30_encoding.md R90). -/
theorem requestOp_of_decodeRequest {w : RequestWord} {i : Instr} (h : decodeRequest w = .ok i) :
    requestOp i = opField w := by
  have opIs : ∀ {op : BitVec 4}, (opField w).toNat = op.toNat → op = opField w :=
    fun e => (BitVec.eq_of_toNat_eq e).symm
  unfold decodeRequest at h
  split at h
  · rename_i e; obtain rfl := noBitsFrom_ok h; exact opIs (op := 0x1) e
  · rename_i e; obtain rfl := noBitsFrom_ok h; exact opIs (op := 0x2) e
  · rename_i e; obtain rfl := noBitsFrom_ok h; exact opIs (op := 0x3) e
  · rename_i e; obtain rfl := noBitsFrom_ok h; exact opIs (op := 0x4) e
  · rename_i e; obtain rfl := noBitsFrom_ok h; exact opIs (op := 0x5) e
  · rename_i e; split_ifs at h; obtain rfl := noBitsFrom_ok h; exact opIs (op := 0x6) e
  · rename_i e; rw [requestOp_of_isCmd (isCmd_of_decodeCmd h)]; exact opIs (op := 0x7) e
  · rename_i e; split_ifs at h; obtain rfl := noBitsFrom_ok h; exact opIs (op := 0x8) e
  · cases h

theorem State.runCmd_lastOp (s : State) (seq : List TransportOp) (final : SeqState) :
    (s.runCmd seq final).lastOp = s.lastOp := by
  unfold State.runCmd
  split <;> rfl

/-- The meaning of a request writes its OP code to LAST_OP, whether it succeeds or not (41_sequencer.md R166). -/
theorem exec_lastOp {i : Instr} {w : RequestWord} {s t : State} (hi : encode i = .request w)
    (h : exec i s = .next t) : t.lastOp = requestOp i := by
  cases i <;> simp only [encode, reduceCtorEq] at hi
  case configure => simp only [exec, execConfigure] at h; split_ifs at h <;> cases h <;> rfl
  case reset => simp only [exec, execReset, State.whenConfigured] at h; split_ifs at h <;> cases h <;> rfl
  case update => simp only [exec, execUpdate] at h; split_ifs at h <;> cases h <;> rfl
  case setPixel =>
    simp only [exec, execSetPixel, State.whenConfigured] at h
    split_ifs at h <;> cases h
    · exact (State.enterDrawing_lastOp _).trans (State.setPlane_lastOp _ _ _)
    · rfl
    · rfl
  case clear =>
    simp only [exec, execClear, State.whenConfigured] at h
    split_ifs at h <;> cases h
    · exact (State.enterDrawing_lastOp _).trans (State.setPlane_lastOp _ _ _)
    · rfl
  case map => simp only [exec, execMap, State.whenConfigured] at h; split_ifs at h <;> cases h <;> rfl
  case peek => simp only [exec, execPeek, State.whenConfigured] at h; split_ifs at h <;> cases h <;> rfl
  all_goals (cases h; exact State.runCmd_lastOp _ _ _)

end LastOp

/-! ### The step counter -/

section StepCounter

open Sys2Proof.Claims

variable {s t : State}

/-- Acceptance sets `step` to 0 (10_state.md R53). -/
theorem RequestNext.stepCount {i : Instr} (h : RequestNext s i t) : t.stepCount = 0 := by
  cases h <;> simp

theorem TransportOp.events_eq_wireEvents (op : TransportOp) : op.events = wireEvents op := by
  cases op with
  | sendData l => exact TransportOp.events_sendData l
  | sendCmd b => rfl
  | resetPulse ms => rfl
  | busyWait => rfl

/-- What happened to the operation due: it succeeded and was counted, it failed and ended the request, or it is a
busy-wait that goes on. -/
def CountsOperation (s t : State) (op : TransportOp) : Prop :=
  (t.stepCount = s.stepCount + 1 ∧ t.err = s.err ∧ t.trace = s.trace ++ wireEvents op) ∨
  (t.stepCount = s.stepCount ∧ t.ready = true ∧ (t.err = .transport ∨ t.err = .timeout)) ∨
  (t.stepCount = s.stepCount ∧ op = .busyWait ∧ t.ready = false ∧ t.trace = s.trace)

theorem perform_countsOperation (s : State) (op : TransportOp) : CountsOperation s (s.perform op) op := by
  rcases s.perform_cases op with ⟨-, e⟩ | ⟨k, d, -, e⟩ <;> rw [e]
  · exact .inl (by simp [TransportOp.events_eq_wireEvents])
  · exact .inr (.inl (by simp))

theorem pollBusy_countsOperation (hr : s.ready = false) : CountsOperation s s.pollBusy .busyWait := by
  rcases s.pollBusy_cases with e | ⟨-, e⟩ | ⟨-, e⟩ | e <;> rw [e]
  · exact .inr (.inl (by simp))
  · exact .inr (.inl (by simp))
  · exact .inr (.inr (by simp [hr]))
  · exact .inl (by simp [wireEvents])

/-- In progress the step performs SEQ[step] (41_sequencer.md R167). -/
theorem step_busy_countsOperation (h : step s = .next t) (hr : s.ready = false) :
    ∃ op, s.seq[s.stepCount]? = some op ∧ CountsOperation s t op := by
  rcases step_performs h hr with ⟨op, hk, rfl⟩ | ⟨hk, rfl⟩
  · exact ⟨op, hk, perform_countsOperation s op⟩
  · exact ⟨_, hk, pollBusy_countsOperation hr⟩

end StepCounter

/-! ### The obligations -/

section StateObligations

open Sys2Proof.Claims

/-- Settles O41: each field by its lemma; the value after reset and the codes are evaluated. -/
theorem statusRegisterFields : Obligations.StatusRegisterFields := by
  refine ⟨fun s => ?_, by decide, by decide, by decide⟩
  exact ⟨s.statusWord_ready, s.statusWord_cfgValid, s.statusWord_reserved_low, s.statusWord_seqState,
    s.statusWord_err, s.statusWord_step, s.statusWord_lastOp, s.statusWord_reserved_high⟩

/-- Settles O42: the only-writer clause from the four things a step can do to the registers. -/
theorem configurationRegisterFields : Obligations.ConfigurationRegisterFields := by
  refine ⟨fun s => ?_, by decide, rfl, rfl, ?_, ?_⟩
  · exact ⟨s.cfgDimsWord_rows, s.cfgDimsWord_cols, s.cfgModeWord_rot, s.cfgModeWord_autoUpdate,
      s.cfgModeWord_reserved, fun _ hn => s.readReg_above hn⟩
  · intro s t w rest rows cols rot auto hr hq hd h he
    rw [step_of_request hr hq hd] at h
    obtain ⟨hrows, hcols, hrot, hauto⟩ := execConfigure_success h he
    rw [State.readReg_cfgDims, State.readReg_cfgMode, State.cfgDimsWord, State.cfgModeWord, hrows, hcols, hrot, hauto]
    exact ⟨rfl, rfl⟩
  · intro s t h hne
    cases step_registers h with
    | kept k => exact hne.elim (absurd k.cfgDimsWord.symm) (absurd k.cfgModeWord.symm)
    | configured w rest rows cols rot auto hr hq hd _ _ => exact ⟨w, rest, rows, cols, rot, auto, hr, hq, hd, rfl⟩
    | mapped => exact hne.elim (absurd rfl) (absurd rfl)
    | peeked => exact hne.elim (absurd rfl) (absurd rfl)

/-- Settles O43: the two sizes follow CFG_VALID and the dimensions; the division is exact because `cols` is a
multiple of 8. -/
theorem sizeRegistersFollowConfiguration : Obligations.SizeRegistersFollowConfiguration := by
  intro s
  refine ⟨fun h => ?_, fun h => ?_, s.fblenWord_reserved, fun h hdims => ?_⟩
  · rw [State.readReg_lsize, State.readReg_fblen]
    simp [State.lsizeWord, State.fblenWord, State.lsize_unconfigured h, State.fbLen_unconfigured h]
  · refine ⟨?_, ?_, ?_⟩
    · rw [State.readReg_lsize, State.lsizeWord_width, State.lsize_configured h, logicalSize_eq]
      split <;> simp
    · rw [State.readReg_lsize, State.lsizeWord_height, State.lsize_configured h, logicalSize_eq]
      split <;> simp
    · rw [State.readReg_fblen, State.fblenWord_length, State.fbLen_configured h]
  · have hle := planeBytes_le hdims
    have hword : (s.readReg 5).toNat = s.rows.toNat * s.cols.toNat / 8 := by
      rw [State.readReg_fblen, State.fblenWord_toNat, State.fbLen_configured h]
      exact Nat.mod_eq_of_lt (by omega)
    rw [hword]
    exact ⟨planeBytes_exact hdims, hle⟩

/-- Settles O50: of the four things a step can do to the registers only a CONFIGURE touches the configuration, and
it is refused once CFG_VALID is 1. -/
theorem configurationLatchedOnce : Obligations.ConfigurationLatchedOnce := by
  refine ⟨rfl, fun s t h => ⟨fun hv => ?_, fun hv ht => ?_⟩⟩
  · cases step_registers h with
    | kept k => exact ⟨k.cfgValid.trans hv, k.rows, k.cols, k.rot, k.autoUpdate⟩
    | configured _ _ _ _ _ _ _ _ _ hu _ => simp [hv] at hu
    | mapped => exact ⟨hv, rfl, rfl, rfl, rfl⟩
    | peeked => exact ⟨hv, rfl, rfl, rfl, rfl⟩
  · cases step_registers h with
    | kept k => simp [k.cfgValid, hv] at ht
    | configured w rest rows cols rot auto hr hq hd _ hdims =>
      exact ⟨w, rest, rows, cols, rot, auto, hr, hq, hd, (validDims_iff rows cols).1 hdims, rfl, rfl, rfl, rfl⟩
    | mapped => simp [hv] at ht
    | peeked => simp [hv] at ht

/-- Settles O51: of the four things a step can do to the registers only a MAP touches RESULT. -/
theorem onlyMapWritesResult : Obligations.OnlyMapWritesResult := by
  refine ⟨fun s => ⟨s.resultWord_byteIndex, s.resultWord_reserved, s.resultWord_mask⟩, rfl, fun s t h hne => ?_⟩
  cases step_registers h with
  | kept k => exact absurd k.resultWord.symm hne
  | configured => exact absurd rfl hne
  | mapped w rest x y _ _ hr hq hd => exact ⟨w, rest, x, y, hr, hq, hd, rfl⟩
  | peeked => exact absurd rfl hne

/-- Settles O52: of the four things a step can do to the registers only a PEEK touches DATA. -/
theorem onlyPeekWritesData : Obligations.OnlyPeekWritesData := by
  refine ⟨fun s => ⟨s.dataWord_byte, s.dataWord_reserved⟩, rfl, ?_, ?_⟩
  · intro s t h hne
    cases step_registers h with
    | kept k => exact absurd k.dataWord.symm hne
    | configured => exact absurd rfl hne
    | mapped => exact absurd rfl hne
    | peeked w rest p index _ hr hq hd => exact ⟨w, rest, p, index, hr, hq, hd, rfl⟩
  · intro s t w rest p index hr hq hd h he
    rw [step_of_request hr hq hd] at h
    rw [State.readReg_data, State.dataWord_toNat, execPeek_success h he]
    rfl

/-- Settles O55: acceptance clears `step`, and in progress the operation due decides it. -/
theorem stepCountsOperations : Obligations.StepCountsOperations := by
  refine ⟨rfl, State.statusWord_step, fun s t h => ⟨fun hr hq => ?_, fun hr hq => ?_, fun hr => ?_⟩⟩
  · rw [step_waits h hr hq]
  · obtain ⟨w, rest, hq⟩ := List.exists_cons_of_ne_nil hq
    rcases step_accepts h hr hq with rfl | ⟨i, hd, hx⟩
    · rfl
    · exact (requestNext_of_exec hd hx).stepCount
  · exact step_busy_countsOperation h hr

/-- Settles O56: an ILLEGAL word writes its OP field by `rejectIllegal`, a legal one by its request's meaning. -/
theorem lastOpNamesAcceptedWord : Obligations.LastOpNamesAcceptedWord := by
  refine fun s t h => ⟨fun w rest hr hq => ?_, fun hno => ?_⟩
  · rcases step_accepts h hr hq with rfl | ⟨i, hd, hx⟩
    · rfl
    · obtain ⟨w', hw⟩ := encode_of_decodeRequest hd
      exact (exec_lastOp hw hx).trans (requestOp_of_decodeRequest hd)
  · cases hr : s.ready with
    | true => rw [step_waits h hr (hno.resolve_left (by simp [hr]))]
    | false => rcases step_performs h hr with ⟨op, -, rfl⟩ | ⟨-, rfl⟩ <;> simp

end StateObligations

end Sys2Proof.Machine

/-! ### The opcode table's rows -/

namespace Sys2Proof.Machine

section RequestRows

open Sys2Proof.Claims

/-- Masking with a field's ones reads the field and leaves it in its place (00_scope.md R27). -/
theorem and_place_allOnes (w : RequestWord) (lo n : Nat) :
    w &&& place (BitVec.allOnes n) lo = place (w.extractLsb' lo n) lo := by
  apply BitVec.eq_of_getLsbD_eq
  intro k hk
  by_cases hlo : k < lo
  · simp [place, hlo]
  · have hadd : lo + (k - lo) = k := by omega
    simp [place, hk, hlo, hadd, Bool.and_comm]

theorem and_opMask (w : RequestWord) : w &&& 0xF = place (opField w) 0 := and_place_allOnes w 0 4

theorem and_opMask_of_toNat {w : RequestWord} {op : Nat} (h : (opField w).toNat = op) :
    w &&& 0xF = place (BitVec.ofNat 4 op) 0 := by
  rw [and_opMask, ← h, BitVec.ofNat_toNat, BitVec.setWidth_eq]

/-- OP and a second field masked together. -/
theorem and_opMask_or_place {w : RequestWord} {op : Nat} (hop : (opField w).toNat = op) (lo n : Nat) :
    w &&& (0xF ||| place (BitVec.allOnes n) lo) =
      place (BitVec.ofNat 4 op) 0 ||| place (w.extractLsb' lo n) lo := by
  rw [BitVec.and_or_distrib_left, and_opMask_of_toNat hop, and_place_allOnes]

/-- OP and SEL of a CMD word (30_encoding.md R99). -/
theorem and_selMask_of_toNat {w : RequestWord} {sel : Nat} (hop : (opField w).toNat = 0x7)
    (h : (selField w).toNat = sel) : w &&& 0xFFF = cmdWord (BitVec.ofNat 8 sel) := by
  have hsel : BitVec.ofNat 8 sel = selField w := by rw [← h, BitVec.ofNat_toNat, BitVec.setWidth_eq]
  rw [hsel]
  exact and_opMask_or_place hop 4 8

/-- A word with no bit from `lo` up reads nothing through a mask of those bits. -/
theorem and_highMask {w : RequestWord} {lo : Nat} (h : w >>> lo = 0) : w &&& BitVec.allOnes 64 <<< lo = 0 := by
  apply BitVec.eq_of_getLsbD_eq
  intro k hk
  by_cases hlo : k < lo
  · simp [hlo]
  · have hadd : lo + (k - lo) = k := by omega
    have hbit := congrArg (BitVec.getLsbD · (k - lo)) h
    simp only [BitVec.getLsbD_ushiftRight, hadd] at hbit
    simp [hbit]

/-- A decoder branch that checks the bits from `lo` up reads a word of the row with those bits reserved, if the
branch has fixed the row's other bits. -/
theorem row_of_noBitsFrom {w p k : RequestWord} {lo : Nat} {i j : Instr} (h : noBitsFrom w lo i = .ok j)
    (hk : w &&& k = p) (hrow : ⟨p, k ||| BitVec.allOnes 64 <<< lo⟩ ∈ requestRows) :
    ∃ r ∈ requestRows, w &&& r.mask = r.pattern := by
  refine ⟨_, hrow, ?_⟩
  unfold noBitsFrom at h
  split_ifs at h with hhigh
  rw [BitVec.and_or_distrib_left, hk, and_highMask hhigh]
  exact BitVec.or_zero

/-- A CMD word that decodes is the word of its selector's row (30_encoding.md R99, R102). -/
theorem row_of_decodeCmd {w : RequestWord} {i : Instr} (hop : (opField w).toNat = 0x7) (h : decodeCmd w = .ok i) :
    ∃ r ∈ requestRows, w &&& r.mask = r.pattern := by
  unfold decodeCmd at h
  split at h
  case h_18 => cases h
  all_goals
    rename_i hsel
    exact row_of_noBitsFrom h (and_selMask_of_toNat hop hsel) (by decide)

/-- A word that decodes is the word of a row (30_encoding.md R109). -/
theorem row_of_decodeRequest {w : RequestWord} {i : Instr} (h : decodeRequest w = .ok i) :
    ∃ r ∈ requestRows, w &&& r.mask = r.pattern := by
  unfold decodeRequest at h
  split at h <;> rename_i hop
  case h_6 =>
    split_ifs at h with hreserved
    refine row_of_noBitsFrom h (k := 0x3F) (p := 0x6) ?_ (by decide)
    exact (and_opMask_or_place hop 4 2).trans (by rw [hreserved]; rfl)
  case h_7 => exact row_of_decodeCmd hop h
  case h_8 =>
    split_ifs at h with hreserved
    refine row_of_noBitsFrom h (k := 0x2F) (p := 0x8) ?_ (by decide)
    have hbit : w.extractLsb' 5 1 = 0#1 := by
      apply BitVec.eq_of_getLsbD_eq
      intro k hk
      obtain rfl : k = 0 := by omega
      simpa using hreserved
    exact (and_opMask_or_place hop 5 1).trans (by rw [hbit]; rfl)
  case h_9 => cases h
  all_goals exact row_of_noBitsFrom h (and_opMask_of_toNat hop) (by decide)

/-! #### The selector bits of a row -/

/-- Every row's mask covers its OP (and SEL), and its match has no other bit. -/
theorem selectorBits_of_row : ∀ r ∈ requestRows,
    r.mask &&& selectorBits r = selectorBits r ∧ r.pattern &&& selectorBits r = r.pattern := by decide

theorem opField_selectorBits (r : TableRow) : opField (selectorBits r) = BitVec.allOnes 4 := by
  unfold selectorBits
  split <;> rfl

/-- A row's OP decides whether SEL selects it too. -/
theorem selectorBits_eq (r : TableRow) : selectorBits r = if opField r.pattern = 0x7#4 then 0xFFF else 0xF := by
  have hop : r.pattern &&& 0xF = 0x7 ↔ opField r.pattern = 0x7#4 := by
    rw [and_opMask]
    generalize opField r.pattern = op
    revert op
    decide
  simp only [selectorBits, hop]

/-- A row is known by its match: no two rows have the same OP (and SEL). -/
theorem row_eq_of_pattern : ∀ r ∈ requestRows, ∀ q ∈ requestRows, r.pattern = q.pattern → r = q := by decide

/-- The OP codes that are not reserved (30_encoding.md R91). -/
theorem opField_of_row : ∀ r ∈ requestRows, opField r.pattern ≠ 0#4 ∧ (opField r.pattern).toNat < 9 := by decide

/-- The accepted selectors (30_encoding.md R102). -/
theorem selField_of_cmdRow : ∀ r ∈ requestRows, opField r.pattern = 0x7#4 →
    selField r.pattern ∈ [0x01#8, 0x03#8, 0x0C#8, 0x11#8, 0x12#8, 0x18#8, 0x20#8, 0x21#8, 0x22#8, 0x3C#8,
      0x44#8, 0x45#8, 0x46#8, 0x47#8, 0x4E#8, 0x4F#8, 0x7F#8] := by decide

variable {w : RequestWord} {r q : TableRow}

/-- A row's word has the row's OP (and SEL), and none of its reserved bits. -/
theorem selects_of_matches (hr : r ∈ requestRows) (h : w &&& r.mask = r.pattern) :
    w &&& selectorBits r = r.pattern ∧ w &&& (r.mask &&& ~~~ selectorBits r) = 0 := by
  obtain ⟨hmask, hpattern⟩ := selectorBits_of_row r hr
  constructor
  · rw [← hmask, ← BitVec.and_assoc, h, hpattern]
  · rw [← BitVec.and_assoc, h, ← hpattern, BitVec.and_assoc, BitVec.and_not_self]
    exact BitVec.and_zero

theorem opField_of_selects (h : w &&& selectorBits r = r.pattern) : opField w = opField r.pattern := by
  have hop : opField (w &&& selectorBits r) = opField w &&& opField (selectorBits r) := BitVec.extractLsb'_and
  rw [← h, hop, opField_selectorBits, BitVec.and_allOnes]

theorem selField_of_selects (h : w &&& selectorBits r = r.pattern) (hop : opField r.pattern = 0x7#4) :
    selField w = selField r.pattern := by
  have hbits : selField (w &&& selectorBits r) = selField w &&& selField (selectorBits r) := BitVec.extractLsb'_and
  have hones : selField (selectorBits r) = BitVec.allOnes 8 := by rw [selectorBits_eq, if_pos hop]; rfl
  rw [← h, hbits, hones, BitVec.and_allOnes]

/-- OP (and SEL) select one row at most (30_encoding.md R109). -/
theorem row_unique_of_selects (hr : r ∈ requestRows) (hq : q ∈ requestRows) (hwr : w &&& selectorBits r = r.pattern)
    (hwq : w &&& selectorBits q = q.pattern) : r = q := by
  have hop : opField r.pattern = opField q.pattern := (opField_of_selects hwr).symm.trans (opField_of_selects hwq)
  have hbits : selectorBits r = selectorBits q := by rw [selectorBits_eq, selectorBits_eq, hop]
  exact row_eq_of_pattern r hr q hq (by rw [← hwr, ← hwq, hbits])

/-! #### Words of no row -/

/-- The step that takes a word which decodes to nothing rejects it (41_sequencer.md R166). -/
theorem step_of_illegal {s : State} {rest : List RequestWord} {e : DecodeError} (hr : s.ready = true)
    (hq : s.requests = w :: rest) (hd : decodeRequest w = .error e) :
    step s = .next (({ s with requests := rest } : State).rejectIllegal w) := by
  simp [step, stepIdle, hr, hq, hd]

theorem decodeRequest_error_of_no_row (h : ∀ r ∈ requestRows, w &&& r.mask ≠ r.pattern) :
    ∃ e, decodeRequest w = .error e := by
  cases hd : decodeRequest w with
  | error e => exact ⟨e, rfl⟩
  | ok i =>
    obtain ⟨r, hr, hw⟩ := row_of_decodeRequest hd
    exact absurd hw (h r hr)

/-- Settles O5: a word that decodes is a row's, so one of no row is rejected; and a row's word has the row's OP (and
SEL), which no other row has, and none of its reserved bits. -/
theorem illegalWordRejected : Obligations.IllegalWordRejected := by
  refine ⟨fun s w rest hready hqueue hno => ?_, fun w hop r hr hw => ?_, fun w hop hsel r hr hw => ?_,
    fun w r hr hwr hreserved q hq hwq => ?_⟩
  · obtain ⟨e, hd⟩ := decodeRequest_error_of_no_row hno
    exact step_of_illegal hready hqueue hd
  · obtain ⟨hzero, hlt⟩ := opField_of_row r hr
    rw [← opField_of_selects (selects_of_matches hr hw).1] at hzero hlt
    exact hop.elim hzero (Nat.not_le.2 hlt)
  · obtain ⟨hsels, -⟩ := selects_of_matches hr hw
    have hcmd : opField r.pattern = 0x7#4 := (opField_of_selects hsels).symm.trans hop
    have hlisted := selField_of_cmdRow r hr hcmd
    rw [← selField_of_selects hsels hcmd] at hlisted
    exact hsel hlisted
  · obtain ⟨hwq', hclear⟩ := selects_of_matches hq hwq
    obtain rfl := row_unique_of_selects hr hq hwr hwq'
    exact hreserved hclear

end RequestRows

end Sys2Proof.Machine

/-! ### The command layer -/

namespace Sys2Proof.Machine

/-! #### Bytes on the wire -/

section ByteOrder

theorem lo8_toNat (v : BitVec 16) : (lo8 v).toNat = v.toNat % 256 := by
  rw [lo8, BitVec.extractLsb'_toNat, Nat.shiftRight_zero]

theorem hi8_toNat (v : BitVec 16) : (hi8 v).toNat = v.toNat / 256 := by
  have hv := v.isLt
  rw [hi8, BitVec.extractLsb'_toNat, Nat.shiftRight_eq_div_pow]
  omega

/-- The two bytes of a value weigh 1 and 256, low byte first (20_memory.md R75). -/
theorem lo8_add_hi8 (v : BitVec 16) : (lo8 v).toNat + 256 * (hi8 v).toNat = v.toNat := by
  rw [lo8_toNat, hi8_toNat]
  exact Nat.mod_add_div v.toNat 256

/-- The mask 0x3FF keeps the low ten bits (40_command_layer.md R133). -/
theorem windowEnd_toNat (stop : BitVec 16) : (windowEnd stop).toNat = stop.toNat % 1024 := by
  rw [windowEnd, BitVec.toNat_and]
  exact Nat.and_two_pow_sub_one_eq_mod stop.toNat 10

/-- A ten-bit start loses nothing on its way into two bytes (40_command_layer.md R132). -/
theorem windowStart_toNat (start : BitVec 10) : (start.setWidth 16).toNat = start.toNat :=
  BitVec.toNat_setWidth_of_le (by decide)

end ByteOrder

/-! #### The gate-voltage quantiser -/

section GateVoltage

theorem gateVoltageCode_inside {vdv : Byte} {k : Fin 17} (h : 120 ≤ vdv.toNat ∧ vdv.toNat ≤ 200)
    (hk : k.val = (vdv.toNat - 120 + 2) / 5) : gateVoltageCode vdv = Config.gateCode k := by
  rw [gateVoltageCode, if_pos h, ← hk, Fin.ofNat_val_eq_self]

theorem gateVoltageCode_outside {vdv : Byte} (h : vdv.toNat < 120 ∨ 200 < vdv.toNat) :
    gateVoltageCode vdv = Config.gatePorCode :=
  if_neg (by omega)

/-- Step `k` of the table stands for 12.0 V plus `k` halves of a volt, in tenths (40_command_layer.md R124). -/
def gateStepTenths (k : Fin 17) : Int := 120 + 5 * k.val

/-- The rounded step is within 0.2 V. -/
theorem gateStep_near {n : Nat} {k : Fin 17} (h : 120 ≤ n) (hk : k.val = (n - 120 + 2) / 5) :
    ((n : Int) - gateStepTenths k).natAbs ≤ 2 := by
  unfold gateStepTenths
  omega

/-- Steps are 0.5 V apart, so a step within 0.2 V leaves every other at least 0.3 V away. -/
theorem gateStep_far {n : Int} {j k : Fin 17} (hk : (n - gateStepTenths k).natAbs ≤ 2) (hj : j ≠ k) :
    3 ≤ (n - gateStepTenths j).natAbs := by
  have hne : j.val ≠ k.val := Fin.val_ne_of_ne hj
  unfold gateStepTenths at hk ⊢
  omega

/-- With the chip ready cmd.gate_voltage starts its frame, whatever the voltage (40_command_layer.md R121, R123). -/
theorem exec_cmdGateVoltage_ready {s : State} (vdv : Byte) (h : s.chipReady = true) :
    exec (.cmdGateVoltage vdv) s = .next ((s.accept 0x7).start (frameGateVoltage vdv) s.seqState s.seqState) :=
  congrArg Host.Outcome.next (State.runCmd_ready (s := s.accept 0x7) h)

end GateVoltage

/-! #### What a step adds to the trace -/

section StepTrace

variable {s t : State}

/-- Only a SendCmd emits a command byte, and it emits its own (41_sequencer.md R160-R163). -/
theorem TransportOp.cmd_mem_events {op : TransportOp} {b : Byte} : .cmd b ∈ op.events ↔ op = .sendCmd b := by
  cases op <;> simp [eq_comm]

/-- A performed operation emits the first of its events: all of them on Ok. -/
theorem State.perform_trace (s : State) (op : TransportOp) :
    ∃ evs, evs <+: op.events ∧ (s.perform op).trace = s.trace ++ evs := by
  rcases s.perform_cases op with ⟨-, e⟩ | ⟨k, d, -, e⟩ <;> rw [e]
  · exact ⟨op.events, List.prefix_rfl, by simp⟩
  · exact ⟨op.events.take k, List.take_prefix k op.events, by simp⟩

/-- A busy poll emits nothing, or that the wait is over (41_sequencer.md R163). -/
theorem State.pollBusy_trace (s : State) :
    ∃ evs, evs <+: TransportOp.busyWait.events ∧ s.pollBusy.trace = s.trace ++ evs := by
  rcases s.pollBusy_cases with e | ⟨-, e⟩ | ⟨-, e⟩ | e <;> rw [e]
  · exact ⟨[], List.nil_prefix, by simp⟩
  · exact ⟨[], List.nil_prefix, by simp⟩
  · exact ⟨[], List.nil_prefix, by simp⟩
  · exact ⟨[.waitReady], List.prefix_rfl, by simp⟩

/-- Acceptance emits nothing (41_sequencer.md R166). -/
theorem RequestNext.trace_eq {i : Instr} (h : RequestNext s i t) : t.trace = s.trace := by
  cases h <;> simp

/-- The operation due of a frame is no command, or the frame's own. -/
theorem State.frameOp_eq_sendCmd {op b : Byte} {data : List Byte} (h : s.frameOp op data = .sendCmd b) : b = op := by
  rcases s.frameOp_cases op data with e | ⟨-, e⟩ <;> rw [e] at h
  · exact (TransportOp.sendCmd.inj h).symm
  · cases h

/-- A step emits the first of one operation's events, or nothing; and where that operation is a SendCmd its byte is
one of the 19 bus opcodes, because the frame it belongs to decodes (40_command_layer.md R144). -/
theorem step_trace (h : step s = .next t) :
    t.trace = s.trace ∨
    ∃ (op : TransportOp) (evs : List Event), evs <+: op.events ∧ t.trace = s.trace ++ evs ∧
      ∀ b, op = .sendCmd b → b ∈ busOpcodes := by
  cases step_cases h with
  | idle => exact .inl rfl
  | illegal => exact .inl rfl
  | request w rest i t hr hq hd ht hn => exact .inl hn.trace_eq
  | poll =>
    obtain ⟨evs, hpre, htrace⟩ := s.pollBusy_trace
    exact .inr ⟨_, evs, hpre, htrace, nofun⟩
  | pulse ms =>
    obtain ⟨evs, hpre, htrace⟩ := s.perform_trace (.resetPulse ms)
    exact .inr ⟨_, evs, hpre, htrace, nofun⟩
  | framed op data i hr hf hd hk =>
    obtain ⟨evs, hpre, htrace⟩ := s.perform_trace (s.frameOp op data)
    exact .inr ⟨_, evs, hpre, htrace, fun b hb => State.frameOp_eq_sendCmd hb ▸ busOpcode_of_decodeFrame hd⟩

end StepTrace

/-! #### The obligations -/

/-- Settles O27: rounding to a step puts it within 0.2 V and every other at least 0.3 V away; the frame starts for
every voltage, with ERR = NONE from acceptance. -/
theorem gateVoltageTakesNearestStep : Obligations.GateVoltageTakesNearestStep := by
  refine ⟨fun v => ⟨fun h => ?_, gateVoltageCode_outside⟩, fun v s hs => ?_⟩
  · have hlt : (v.toNat - 120 + 2) / 5 < 17 := by omega
    have hnear := gateStep_near (k := ⟨_, hlt⟩) h.1 rfl
    exact ⟨⟨_, hlt⟩, rfl, gateVoltageCode_inside h rfl, hnear, fun j hj => gateStep_far hnear hj⟩
  · exact ⟨_, exec_cmdGateVoltage_ready v (State.chipReady_iff.2 hs), rfl, rfl⟩

/-- Settles O28: the four window bytes are those of the start and of the masked end; the counters' and the gate
count's are the whole value's. -/
theorem windowEndKeepsTenBits : Obligations.WindowEndKeepsTenBits := by
  refine ⟨fun a e => ⟨_, _, _, _, rfl, rfl, ?_, ?_⟩, fun v => ⟨_, _, rfl, rfl, fun _ => rfl, lo8_add_hi8 v⟩⟩
  · rw [lo8_add_hi8, windowStart_toNat]
  · rw [lo8_add_hi8, windowEnd_toNat]

/-- Settles O49: a command byte in the trace was there before the step, or is the byte of the SendCmd performed. -/
theorem traceHoldsBusOpcodesOnly : Obligations.TraceHoldsBusOpcodesOnly := by
  refine ⟨nofun, fun s t hs h b hb => ?_⟩
  rcases step_trace h with htrace | ⟨op, evs, hpre, htrace, hop⟩ <;> rw [htrace] at hb
  · exact hs b hb
  · rcases List.mem_append.1 hb with hold | hnew
    · exact hs b hold
    · exact hop b (TransportOp.cmd_mem_events.1 (hpre.subset hnew))

end Sys2Proof.Machine

/-! ### The sequencer -/

namespace Sys2Proof.Machine

/-! #### What CONFIGURE, RESET and UPDATE answer

By the check that decides it (41_sequencer.md R170, R174, R180). -/

section SequencerRequests

variable {s : State} {rows cols : BitVec 16}

theorem exec_configure_latched (rot : Rotation) (auto : Bool) (h : s.cfgValid = true) :
    exec (.configure rows cols rot auto) s = .next ((s.accept 0x1).reject .state) :=
  if_pos h

/-- An unconfigured block takes CONFIGURE by its dimensions alone. -/
theorem exec_configure_unlatched (rot : Rotation) (auto : Bool) (h : s.cfgValid = false) :
    exec (.configure rows cols rot auto) s =
      if validDims rows cols then .next { s.accept 0x1 with
        rows := rows, cols := cols, rot := rot, autoUpdate := auto, cfgValid := true }
      else .next ((s.accept 0x1).reject .config) :=
  if_neg (by simp [h])

theorem exec_reset_configured (h : s.cfgValid = true) :
    exec .reset s = .next ((s.accept 0x2).start (resetSeq ++ initSeq s.rows s.cols) .initialized .hwReset) :=
  if_pos h

/-- Acceptance changes nothing UPDATE streams, so its SEQ is that of the state before. -/
theorem exec_update_ready (bw red : Bool) (mode : UpdateMode) (h : s.chipReady = true) :
    exec (.update bw red mode) s = .next ((s.accept 0x3).start (updateSeq bw red mode s) .drawing .updating) :=
  if_pos h

end SequencerRequests

/-! #### The operations of RESET and of UPDATE -/

section SequencerOperations

/-- Other dimensions rewrite the data of driver-output and of the two windows, and no other operation
(41_sequencer.md R176). -/
theorem resetOperations_eq_set (rows cols rows' cols' : BitVec 16) :
    resetSeq ++ initSeq rows cols =
      (((resetSeq ++ initSeq rows' cols').set
        8 (.sendData (bytes16 (Config.gateValue rows) ++ [Config.scanByte]))).set
        12 (.sendData (bytes16 0 ++ bytes16 (windowEnd (Config.xEnd cols))))).set
        14 (.sendData (bytes16 0 ++ bytes16 (windowEnd (Config.yEnd rows)))) := rfl

theorem resetOperations_getElem?_congr {rows cols rows' cols' : BitVec 16} {k : Nat}
    (h8 : k ≠ 8) (h12 : k ≠ 12) (h14 : k ≠ 14) :
    (resetSeq ++ initSeq rows cols)[k]? = (resetSeq ++ initSeq rows' cols')[k]? := by
  rw [resetOperations_eq_set rows cols rows' cols', List.getElem?_set_ne h14.symm, List.getElem?_set_ne h12.symm,
    List.getElem?_set_ne h8.symm]

theorem counterReset_eq : counterReset = [.sendCmd 0x4E, .sendData [0, 0], .sendCmd 0x4F, .sendData [0, 0]] := rfl

theorem modeByte_eq (mode : UpdateMode) : Config.modeByte mode = if mode = .fast then 0xFF else 0xF7 := by
  cases mode <;> rfl

/-- The frames of UPDATE written out; the RAM writes stay frames, for a plane with no bytes has no SendData. -/
theorem updateSeq_eq (bw red : Bool) (mode : UpdateMode) (s : State) :
    updateSeq bw red mode s =
      (if bw then [.sendCmd 0x4E, .sendData [0, 0], .sendCmd 0x4F, .sendData [0, 0]] ++
        frame 0x24 (s.planeBytes .bw) else []) ++
      (if red then [.sendCmd 0x4E, .sendData [0, 0], .sendCmd 0x4F, .sendData [0, 0]] ++
        frame 0x26 (s.planeBytes .red) else []) ++
      [.sendCmd 0x22, .sendData [if mode = .fast then 0xFF else 0xF7], .sendCmd 0x20, .busyWait] := by
  rw [updateSeq, counterReset_eq, modeByte_eq, List.append_assoc, List.append_assoc]
  rfl

end SequencerOperations

/-! #### DEEP_SLEEP -/

section DeepSleep

/-- Neither STATE nor the STATE the request in progress ends in is DEEP_SLEEP (41_sequencer.md R193): as an
invariant it needs both, because completing a request makes the second the first. -/
structure State.Awake (s : State) : Prop where
  seqState : s.seqState ≠ .deepSleep
  finalState : s.finalState ≠ .deepSleep

variable {s t : State}

theorem State.reset_awake : State.reset.Awake := ⟨nofun, nofun⟩

/-- Being awake is about these two fields only. -/
theorem State.Awake.congr (h : s.Awake) (hseq : t.seqState = s.seqState) (hfinal : t.finalState = s.finalState) :
    t.Awake :=
  ⟨hseq ▸ h.seqState, hfinal ▸ h.finalState⟩

theorem State.Awake.fail (h : s.Awake) (e : ErrCode) : (s.fail e).Awake := ⟨nofun, h.finalState⟩

/-- STATE during RESET is SW_RESET, INITIALIZING, or as before (41_sequencer.md R179). -/
theorem State.midState_ne_deepSleep (h : s.seqState ≠ .deepSleep) (n : Nat) : s.midState n ≠ .deepSleep := by
  unfold State.midState
  split_ifs
  · nofun
  · nofun
  · exact h

theorem State.Awake.advance (h : s.Awake) : s.advance.Awake := by
  by_cases hmore : s.stepCount + 1 < s.seq.length
  · rw [State.advance_more hmore]
    exact ⟨State.midState_ne_deepSleep h.seqState _, h.finalState⟩
  · rw [State.advance_last hmore]
    exact ⟨h.finalState, h.finalState⟩

theorem State.Awake.enterDrawing (h : s.Awake) : s.enterDrawing.Awake := by
  unfold State.enterDrawing
  split
  · exact ⟨nofun, h.finalState⟩
  · exact h

theorem State.Awake.perform (h : s.Awake) (op : TransportOp) : (s.perform op).Awake := by
  rcases s.perform_cases op with ⟨-, e⟩ | ⟨k, d, -, e⟩ <;> rw [e]
  · exact .advance (h.congr (by simp) (by simp))
  · exact .fail (h.congr (by simp) (by simp)) .transport

theorem State.Awake.pollBusy (h : s.Awake) : s.pollBusy.Awake := by
  rcases s.pollBusy_cases with e | ⟨-, e⟩ | ⟨-, e⟩ | e <;> rw [e]
  · exact .fail (h.congr (by simp) (by simp)) .transport
  · exact .fail (h.congr (by simp) (by simp)) .timeout
  · exact h.congr (by simp) (by simp)
  · exact .advance (h.congr (by simp) (by simp))

/-- A request that starts enters and ends in a STATE of its own, or in the one it was accepted in. -/
theorem Starts.ne_deepSleep {op : BitVec 4} {seq : List TransportOp} {final entry : SeqState}
    (hs : Starts s op seq final entry) (h : s.Awake) : entry ≠ .deepSleep ∧ final ≠ .deepSleep := by
  cases hs with
  | reset => exact ⟨nofun, nofun⟩
  | update => exact ⟨nofun, nofun⟩
  | cmdFrame => exact ⟨h.seqState, h.seqState⟩
  | cmdSwReset => exact ⟨h.seqState, nofun⟩
  | cmdRefresh => exact ⟨h.seqState, h.seqState⟩

theorem State.Awake.request {i : Instr} (h : s.Awake) (hn : RequestNext s i t) : t.Awake := by
  cases hn with
  | rejected => exact h.congr rfl rfl
  | started i op seq final entry hs =>
    obtain ⟨hentry, hfinal⟩ := hs.ne_deepSleep h
    exact ⟨hentry, hfinal⟩
  | configured => exact h.congr rfl rfl
  | mapped => exact h.congr rfl rfl
  | pixelSet => exact .enterDrawing (h.congr (by simp) (by simp))
  | cleared => exact .enterDrawing (h.congr (by simp) (by simp))
  | peeked => exact h.congr rfl rfl

theorem State.Awake.step (h : s.Awake) (hstep : step s = .next t) : t.Awake := by
  cases step_cases hstep with
  | idle => exact h
  | illegal => exact h.congr rfl rfl
  | request w rest i t hr hq hd ht hn =>
    have hrest : ({ s with requests := rest } : State).Awake := h.congr rfl rfl
    exact hrest.request hn
  | poll => exact h.pollBusy
  | pulse ms => exact h.perform _
  | framed op data => exact h.perform _

end DeepSleep

/-! #### The obligations -/

section SequencerObligations

open Sys2Proof.Claims

/-- Settles O9: CFG_VALID is checked first, then the dimensions, whose check is R171's range. -/
theorem configureLatchesValidDimensions : Obligations.ConfigureLatchesValidDimensions := by
  intro rows cols rot auto s
  refine ⟨fun h hdims => ?_, fun h hdims => ?_, fun h => exec_configure_latched rot auto h⟩
  · rw [exec_configure_unlatched rot auto h, if_pos ((validDims_iff rows cols).2 hdims)]
    rfl
  · rw [exec_configure_unlatched rot auto h, if_neg (mt (validDims_iff rows cols).1 hdims)]
    rfl

/-- Settles O11: SEQ is RESET's list of the dimensions, and other dimensions rewrite three operations of it. -/
theorem initDependsOnDimensionsOnly : Obligations.InitDependsOnDimensionsOnly := by
  intro s u t v hs hu ht hv
  obtain rfl := Host.Outcome.next.inj ((exec_reset_configured hs).symm.trans ht)
  obtain rfl := Host.Outcome.next.inj ((exec_reset_configured hu).symm.trans hv)
  refine ⟨fun k h8 h12 h14 => resetOperations_getElem?_congr h8 h12 h14, fun hrows hcols => ?_⟩
  rw [State.start_seq, State.start_seq, hrows, hcols]

/-- Settles O59: awake after block reset, and every step keeps it. -/
theorem deepSleepNeverEntered : Obligations.DeepSleepNeverEntered := by
  refine ⟨State.reset_awake.seqState, State.reset_awake.finalState, fun s t hseq hfinal hstep => ?_⟩
  obtain ⟨hseq', hfinal'⟩ := State.Awake.step ⟨hseq, hfinal⟩ hstep
  exact ⟨hseq', hfinal'⟩

/-- Settles O10: the frames of `resetSeq` and `initSeq` written out are the 23 operations. -/
theorem resetStartsTwentyThreeOperations : Obligations.ResetStartsTwentyThreeOperations := by
  intro s h
  rw [exec_reset_configured h]
  rfl

/-- Settles O12: `updateSeq` streams the planes of the state UPDATE is accepted in. -/
theorem updateStartsStream : Obligations.UpdateStartsStream := by
  intro bw red mode s hs
  rw [exec_update_ready bw red mode (State.chipReady_iff.2 hs), updateSeq_eq]
  rfl

end SequencerObligations

end Sys2Proof.Machine

/-! ### The mapper -/

namespace Sys2Proof.Machine

/-! #### The bounds and the formulas of the rotations -/

section MapperFormulas

open Sys2Proof.Claims

/-- `inb(x, y)` is being inside the logical size, whose sides swap at 90 and 270 degrees (42_mapping.md R201). -/
theorem inBounds_iff (rot : Rotation) (W H x y : Nat) :
    inBounds rot W H x y = true ↔ insideLogical rot W H x y := by
  cases rot with
  | deg0 | deg90 | deg180 | deg270 => simp [inBounds, insideLogical]

theorem State.inb_iff (s : State) (x y : BitVec 16) :
    s.inb x y = true ↔ insideLogical s.rot s.cols.toNat s.rows.toNat x.toNat y.toNat :=
  inBounds_iff _ _ _ _ _

/-- For each rotation the mapper computes the spec's formula (42_mapping.md R202-R205). -/
theorem mapPixel_eq_rotationFormula (rot : Rotation) (W H x y : Nat) :
    mapPixel rot W H x y = rotationFormula rot W H x y := by
  cases rot with
  | deg0 | deg90 | deg180 | deg270 => rfl

theorem State.mapAt_eq_rotationFormula (s : State) (x y : BitVec 16) :
    s.mapAt x y = rotationFormula s.rot s.cols.toNat s.rows.toNat x.toNat y.toNat :=
  mapPixel_eq_rotationFormula _ _ _ _ _

end MapperFormulas

/-! #### What MAP answers -/

section MapRequest

variable {s : State} {x y : BitVec 16}

/-- A configured block takes MAP by its coordinate alone; acceptance changes nothing the mapper reads, so the bounds
and the address are those of the state before (42_mapping.md R200). -/
theorem exec_map_configured (h : s.cfgValid = true) :
    exec (.map x y) s =
      if s.inb x y then
        .next { s.accept 0x6 with byteIndex := BitVec.ofNat 17 (s.mapAt x y).1, mask := (s.mapAt x y).2 }
      else .next ((s.accept 0x6).reject .bounds) :=
  if_pos h

end MapRequest

/-! #### The obligation -/

section MapperObligations

/-- Settles O15: a configured block with the coordinate in bounds takes the mapper's address, which is the
rotation's formula. -/
theorem mapWritesResult : Obligations.MapWritesResult := by
  intro x y s hcfg hin
  rw [exec_map_configured hcfg, if_pos ((s.inb_iff x y).2 hin), s.mapAt_eq_rotationFormula]
  rfl

end MapperObligations

end Sys2Proof.Machine

/-! ### Errors found at acceptance -/

namespace Sys2Proof.Machine

section Rejection

variable {s t : State}

/-- Acceptance clears ERR (41_sequencer.md R166) and no request that succeeds or starts sets it, so a request that
leaves an error was rejected, and with an error of checks 2 and 3 (60_exceptions.md R252). -/
theorem RequestNext.rejected_of_err {i : Instr} (h : RequestNext s i t) (he : t.err ≠ .none) :
    ∃ op e, (e = .state ∨ e = .config ∨ e = .bounds) ∧ t = (s.accept op).reject e := by
  cases h with
  | rejected _ op e hkind => exact ⟨op, e, hkind, rfl⟩
  | started => exact absurd rfl he
  | configured => exact absurd rfl he
  | mapped => exact absurd rfl he
  | pixelSet => exact absurd (by simp) he
  | cleared => exact absurd (by simp) he
  | peeked => exact absurd rfl he

/-- A step that takes a word and leaves an error only accepts the word and records the error: an ILLEGAL word by
`rejectIllegal`, a request by its rejection (60_exceptions.md R252). -/
theorem step_rejects {w : RequestWord} {rest : List RequestWord} (h : step s = .next t) (hr : s.ready = true)
    (hq : s.requests = w :: rest) (he : t.err ≠ .none) :
    ∃ op e, (e = .illegal ∨ e = .state ∨ e = .config ∨ e = .bounds) ∧
      t = (({ s with requests := rest } : State).accept op).reject e := by
  rcases step_accepts h hr hq with rfl | ⟨i, hd, hx⟩
  · exact ⟨opField w, .illegal, .inl rfl, rfl⟩
  · obtain ⟨op, e, hkind, ht⟩ := (requestNext_of_exec hd hx).rejected_of_err he
    exact ⟨op, e, .inr hkind, ht⟩

end Rejection

section ExceptionObligations

/-- Settles O58: the step is an acceptance and a rejection, which write LAST_OP, ERR and `step` alone, and LAST_OP is
the word's OP field whatever becomes of the word. -/
theorem rejectionIsPrecise : Obligations.RejectionIsPrecise := by
  intro s t w rest hr hq h he
  have hop : t.lastOp = w.extractLsb' 0 4 := (lastOpNamesAcceptedWord s t h).1 w rest hr hq
  obtain ⟨op, e, hkind, rfl⟩ := step_rejects h hr hq he
  obtain rfl : op = w.extractLsb' 0 4 := hop
  exact ⟨hkind, rfl⟩

end ExceptionObligations

end Sys2Proof.Machine

/-! ### Block reset -/

namespace Sys2Proof.Machine

/-- The register numbers: the seven that name a register, and the reserved ones (10_state.md R40, R55). -/
theorem registerNumber_cases (n : BitVec 4) :
    n = 0 ∨ n = 1 ∨ n = 2 ∨ n = 3 ∨ n = 4 ∨ n = 5 ∨ n = 6 ∨ 7 ≤ n.toNat := by
  bv_omega

/-- STATUS shows READY = 1 after block reset and 0 in every other field (70_reset_and_hazards.md R280). -/
theorem State.readReg_status_at_reset : State.reset.readReg 0 = 1 := by
  rw [State.readReg_status]
  decide

/-- Every register but STATUS reads 0 after block reset: the stored ones hold 0, the two sizes read 0 because
nothing is configured, and the reserved ones always do (70_reset_and_hazards.md R280). -/
theorem State.readReg_at_reset {n : BitVec 4} (hn : n ≠ 0) : State.reset.readReg n = 0 := by
  obtain ⟨hlsize, hfblen⟩ := (sizeRegistersFollowConfiguration State.reset).1 rfl
  rcases registerNumber_cases n with h | rfl | rfl | rfl | rfl | rfl | rfl | habove
  · exact absurd h hn
  · exact State.reset.readReg_result
  · exact State.reset.readReg_cfgDims
  · exact State.reset.readReg_cfgMode
  · exact hlsize
  · exact hfblen
  · exact State.reset.readReg_data
  · exact State.readReg_above habove State.reset

section ResetObligations

/-- Settles O44: the registers by the two lemmas above; the rest of the state is the reset record, field by field. -/
theorem blockResetValues : Obligations.BlockResetValues :=
  ⟨State.readReg_status_at_reset, fun _ hn => State.readReg_at_reset hn,
    rfl, rfl, rfl, rfl, rfl, rfl, rfl, rfl, rfl, rfl, rfl⟩

end ResetObligations

end Sys2Proof.Machine

/-! ### The encoding, both ways -/

namespace Sys2Proof.Machine

/-! #### The fields of a word put together from fields -/

section PlacedFields

variable {n lo start len : Nat} {v : BitVec n}

/-- A field is read back where it was placed. -/
@[simp] theorem extract_place_same (v : BitVec n) (h : lo + n ≤ 64) : (place v lo).extractLsb' lo n = v := by
  apply BitVec.eq_of_getLsbD_eq
  intro k hk
  have hin : lo + k < 64 := by omega
  have hback : lo + k - lo = k := by omega
  simp [place, hk, hin, hback]

/-- Bits below or above a placed field are 0. -/
theorem getLsbD_place_outside {k : Nat} (h : k < lo ∨ lo + n ≤ k) : (place v lo).getLsbD k = false := by
  rcases h with h | h
  · simp [place, h]
  · simp [place, BitVec.getLsbD_of_ge v (k - lo) (by omega)]

/-- A field read where another one was placed is 0. -/
@[simp] theorem extract_place_disjoint (h : start + len ≤ lo ∨ lo + n ≤ start) :
    (place v lo).extractLsb' start len = 0#len := by
  apply BitVec.eq_of_getLsbD_eq
  intro k hk
  have houtside : (place v lo).getLsbD (start + k) = false := getLsbD_place_outside (by omega)
  simp [hk, houtside]

/-- One bit is a field of width 1. -/
theorem ofBool_getLsbD (w : RequestWord) (k : Nat) : BitVec.ofBool (w.getLsbD k) = w.extractLsb' k 1 := by
  apply BitVec.eq_of_getLsbD_eq
  intro j hj
  obtain rfl : j = 0 := by omega
  simp

/-- A flag is read back from the bit it was placed at. -/
@[simp] theorem getElem_place_ofBool (b : Bool) (h : lo < 64) : (place (BitVec.ofBool b) lo)[lo] = b := by
  cases b <;> simp [place]

@[simp] theorem getElem_place_outside {k : Nat} (hk : k < 64) (h : k < lo ∨ lo + n ≤ k) : (place v lo)[k] = false :=
  getLsbD_place_outside h

/-- Nothing is left of a field placed below the bits that are kept. -/
@[simp] theorem place_ushiftRight (h : lo + n ≤ start) : place v lo >>> start = 0#64 := by
  apply BitVec.eq_of_getLsbD_eq
  intro k hk
  have houtside : (place v lo).getLsbD (start + k) = false := getLsbD_place_outside (by omega)
  simp [houtside]

theorem noBitsFrom_of_zero {w : RequestWord} {i : Instr} (h : w >>> lo = 0) : noBitsFrom w lo i = .ok i := if_pos h

end PlacedFields

@[simp] theorem Rotation.ofBits_bits (r : Rotation) : Rotation.ofBits r.bits = r := by cases r <;> rfl
@[simp] theorem Plane.ofBit_bit (p : Plane) : Plane.ofBit p.bit = p := by cases p <;> rfl
@[simp] theorem UpdateMode.ofBit_bit (m : UpdateMode) : UpdateMode.ofBit m.bit = m := by cases m <;> rfl

/-- A request's word decodes to it: OP (and SEL) select its row, each operand is read where it was placed, and no bit
is left above the operands. -/
theorem decodeRequest_encode {i : Instr} {w : RequestWord} (h : encode i = .request w) : decodeRequest w = .ok i := by
  cases i <;> simp only [encode, Words.request.injEq, reduceCtorEq] at h <;> subst h
  all_goals simp [decodeRequest, opField, decodeCmd, selField, cmdWord, noBitsFrom, placeBit, BitVec.extractLsb'_or,
    BitVec.ushiftRight_or_distrib]

/-! #### Frames -/

theorem fromLoHi_lo8_hi8 (v : BitVec 16) : fromLoHi (lo8 v) (hi8 v) = v := by
  apply BitVec.eq_of_toNat_eq
  rw [fromLoHi_toNat, Nat.add_comm, Nat.mul_comm, lo8_add_hi8]

theorem frameData2_bytes16 (op : Byte) (k : BitVec 16 → Instr) (v : BitVec 16) :
    frameData2 op k (bytes16 v) = .ok (k v) :=
  congrArg (fun u => Except.ok (k u)) (fromLoHi_lo8_hi8 v)

theorem frameData3_bytes16 (op : Byte) (k : BitVec 16 → Byte → Instr) (v : BitVec 16) (c : Byte) :
    frameData3 op k (bytes16 v ++ [c]) = .ok (k v c) :=
  congrArg (fun u => Except.ok (k u c)) (fromLoHi_lo8_hi8 v)

theorem setWidth_ten_sixteen (v : BitVec 10) : (v.setWidth 16).setWidth 10 = v := by simp

/-- Both values of a window frame have their upper six bits 0, so they are accepted (40_command_layer.md R132). -/
theorem frameData4_windowBytes (op : Byte) (k : BitVec 10 → BitVec 10 → Instr) (start stop : BitVec 10) :
    frameData4 op k (windowBytes start stop) = .ok (k start stop) := by
  refine (if_pos ⟨start_hi8_lt start, start_hi8_lt stop⟩).trans ?_
  rw [fromLoHi_lo8_hi8, fromLoHi_lo8_hi8, setWidth_ten_sixteen, setWidth_ten_sixteen]

theorem frameDataN_of_ne_nil {op : Byte} {k : List Byte → Instr} {data : List Byte} (h : data ≠ []) :
    frameDataN op k data = .ok (k data) := by
  cases data with
  | nil => exact absurd rfl h
  | cons b bs => rfl

theorem ne_nil_of_planeLengthOk {data : List Byte} (h : planeLengthOk data.length = true) : data ≠ [] := by
  rintro rfl
  cases h

/-- A well-formed bus frame decodes to its instruction. -/
theorem decodeFrame_encode {i : Instr} {op : Byte} {data : List Byte} (hwf : WellFormed i = true)
    (h : encode i = .frame op data) : decodeFrame op data = .ok i := by
  cases i <;> simp only [encode, Words.frame.injEq, reduceCtorEq] at h <;> obtain ⟨rfl, rfl⟩ := h
  case busDriverOutput gates scan => exact frameData3_bytes16 0x01 _ gates scan
  case busRamXWindow start stop => exact frameData4_windowBytes 0x44 _ start stop
  case busRamYWindow start stop => exact frameData4_windowBytes 0x45 _ start stop
  case busRamXCounter value => exact frameData2_bytes16 0x4E _ value
  case busRamYCounter value => exact frameData2_bytes16 0x4F _ value
  case busWriteBwRam bytes => exact frameDataN_of_ne_nil (ne_nil_of_planeLengthOk hwf)
  case busWriteRedRam bytes => exact frameDataN_of_ne_nil (ne_nil_of_planeLengthOk hwf)
  all_goals rfl

/-! #### The word of a decoded instruction -/

section DecodedWords

open Sys2Proof.Claims

variable {w k : RequestWord} {lo : Nat}

theorem noBitsFrom_high {i j : Instr} (h : noBitsFrom w lo i = .ok j) : w >>> lo = 0 := by
  unfold noBitsFrom at h
  split_ifs at h with hzero
  exact hzero

/-- One more field of a word beside those a mask keeps. -/
theorem and_mask_field {v : RequestWord} (h : w &&& k = v) (lo n : Nat) :
    w &&& (k ||| place (BitVec.allOnes n) lo) = v ||| place (w.extractLsb' lo n) lo := by
  rw [BitVec.and_or_distrib_left, h, and_place_allOnes]

theorem and_mask_flag {v : RequestWord} (h : w &&& k = v) (lo : Nat) :
    w &&& (k ||| place (BitVec.allOnes 1) lo) = v ||| placeBit (w.getLsbD lo) lo := by
  rw [and_mask_field h, placeBit, ofBool_getLsbD]

/-- A field that is 0 leaves nothing under the mask. -/
theorem and_mask_zero {v m : RequestWord} {n : Nat} (h : w &&& m = v ||| place (w.extractLsb' lo n) lo)
    (hzero : w.extractLsb' lo n = 0) : w &&& m = v := by
  have hplace : place (0 : BitVec n) lo = 0 := by simp [place]
  rw [h, hzero, hplace]
  exact BitVec.or_zero

/-- Where a mask keeps every bit the decoder does not require to be 0, it keeps the word. -/
theorem eq_of_lowMask {v : RequestWord} {i j : Instr} (hd : noBitsFrom w lo i = .ok j) (h : w &&& k = v)
    (hk : k ||| BitVec.allOnes 64 <<< lo = BitVec.allOnes 64) : Words.request v = .request w := by
  refine congrArg Words.request ?_
  calc v = w &&& k ||| w &&& BitVec.allOnes 64 <<< lo := by
          rw [h, and_highMask (noBitsFrom_high hd)]; exact BitVec.or_zero.symm
    _ = w := by rw [← BitVec.and_or_distrib_left, hk, BitVec.and_allOnes]

theorem Rotation.bits_ofBits : ∀ b : BitVec 2, (Rotation.ofBits b).bits = b := by decide
theorem Plane.bit_ofBit : ∀ b : Bool, (Plane.ofBit b).bit = b := by decide
theorem UpdateMode.bit_ofBit : ∀ b : Bool, (UpdateMode.ofBit b).bit = b := by decide
theorem rotCode_ofBits : ∀ b : BitVec 2, rotCode (Rotation.ofBits b) = b.toNat := by decide
theorem planeCode_ofBit : ∀ b : Bool, planeCode (Plane.ofBit b) = b.toNat := by decide
theorem modeCode_ofBit : ∀ b : Bool, modeCode (UpdateMode.ofBit b) = b.toNat := by decide

/-- `w[hi:lo]` is the field the decoder extracts (00_scope.md R27). -/
theorem fieldOf_eq_toNat (w : RequestWord) (hi lo : Nat) :
    fieldOf w hi lo = (w.extractLsb' lo (hi + 1 - lo)).toNat := by
  rw [fieldOf, BitVec.extractLsb'_toNat, Nat.shiftRight_eq_div_pow]

theorem fieldOf_bit (w : RequestWord) (lo : Nat) : fieldOf w lo lo = (w.getLsbD lo).toNat := by
  have hone : lo + 1 - lo = 1 := by omega
  rw [fieldOf_eq_toNat, hone, ← ofBool_getLsbD, BitVec.toNat_ofBool]

/-- A CMD word is put together from OP, SEL and its operands' fields. -/
theorem encode_of_decodeCmd {i : Instr} (hop : (opField w).toNat = 0x7) (h : decodeCmd w = .ok i) :
    encode i = .request w := by
  unfold decodeCmd at h
  split at h
  case h_18 => cases h
  all_goals
    rename_i hsel
    obtain rfl := noBitsFrom_ok h
    have hmask := and_selMask_of_toNat hop hsel
  case h_1 | h_11 | h_12 => exact eq_of_lowMask h (and_mask_field (and_mask_field hmask _ _) _ _) (by decide)
  case h_5 | h_7 | h_17 => exact eq_of_lowMask h hmask (by decide)
  case h_6 => exact eq_of_lowMask h (and_mask_flag hmask _) (by decide)
  all_goals exact eq_of_lowMask h (and_mask_field hmask _ _) (by decide)

theorem operandsRead_of_decodeCmd {i : Instr} (hop : (opField w).toNat = 0x7) (h : decodeCmd w = .ok i) :
    operandsRead w i := by
  have hop' : fieldOf w 3 0 = 7 := (fieldOf_eq_toNat w 3 0).trans hop
  have hsel' : fieldOf w 11 4 = (selField w).toNat := fieldOf_eq_toNat w 11 4
  unfold decodeCmd at h
  split at h
  case h_18 => cases h
  all_goals
    rename_i hsel
    obtain rfl := noBitsFrom_ok h
    simp [operandsRead, isSel, hop', hsel', hsel, fieldOf_bit, fieldOf_eq_toNat w]

/-- A request word is put together from OP and its operands' fields. -/
theorem encode_eq_of_decodeRequest {i : Instr} (h : decodeRequest w = .ok i) : encode i = .request w := by
  unfold decodeRequest at h
  split at h <;> rename_i hop
  case h_7 => exact encode_of_decodeCmd hop h
  case h_9 => cases h
  all_goals have hmask := and_opMask_of_toNat hop
  case h_1 =>
    obtain rfl := noBitsFrom_ok h
    rw [encode, Rotation.bits_ofBits]
    exact eq_of_lowMask h
      (and_mask_flag (and_mask_field (and_mask_field (and_mask_field hmask _ _) _ _) _ _) _) (by decide)
  case h_2 =>
    obtain rfl := noBitsFrom_ok h
    exact eq_of_lowMask h hmask (by decide)
  case h_3 =>
    obtain rfl := noBitsFrom_ok h
    rw [encode, UpdateMode.bit_ofBit]
    exact eq_of_lowMask h (and_mask_flag (and_mask_flag (and_mask_flag hmask _) _) _) (by decide)
  case h_4 =>
    obtain rfl := noBitsFrom_ok h
    rw [encode, Plane.bit_ofBit]
    exact eq_of_lowMask h
      (and_mask_field (and_mask_field (and_mask_flag (and_mask_flag hmask _) _) _ _) _ _) (by decide)
  case h_5 =>
    obtain rfl := noBitsFrom_ok h
    rw [encode, Plane.bit_ofBit]
    exact eq_of_lowMask h (and_mask_flag (and_mask_flag hmask _) _) (by decide)
  case h_6 =>
    split_ifs at h with hreserved
    obtain rfl := noBitsFrom_ok h
    have hmask := and_mask_zero (and_mask_field hmask 4 2) hreserved
    exact eq_of_lowMask h (and_mask_field (and_mask_field hmask _ _) _ _) (by decide)
  case h_8 =>
    split_ifs at h with hreserved
    obtain rfl := noBitsFrom_ok h
    have hmask := and_mask_zero (and_mask_field hmask 5 1) 
      (by rw [← ofBool_getLsbD, Bool.eq_false_of_not_eq_true hreserved]; rfl)
    rw [encode, Plane.bit_ofBit]
    exact eq_of_lowMask h (and_mask_field (and_mask_flag hmask _) _ _) (by decide)

theorem operandsRead_of_decodeRequest {i : Instr} (h : decodeRequest w = .ok i) : operandsRead w i := by
  have hop' : fieldOf w 3 0 = (opField w).toNat := fieldOf_eq_toNat w 3 0
  unfold decodeRequest at h
  split at h <;> rename_i hop
  case h_7 => exact operandsRead_of_decodeCmd hop h
  case h_9 => cases h
  case h_6 | h_8 =>
    split_ifs at h
    obtain rfl := noBitsFrom_ok h
    simp [operandsRead, hop', hop, fieldOf_bit, fieldOf_eq_toNat w, planeCode_ofBit]
  all_goals
    obtain rfl := noBitsFrom_ok h
    simp [operandsRead, hop', hop, fieldOf_bit, fieldOf_eq_toNat w, rotCode_ofBits, planeCode_ofBit, modeCode_ofBit]

end DecodedWords

/-! #### The words of a row -/

section RowWords

variable {w : RequestWord} {r : TableRow}

/-- The converse of `and_highMask`. -/
theorem ushiftRight_of_and_highMask {lo : Nat} (h : w &&& BitVec.allOnes 64 <<< lo = 0) : w >>> lo = 0 := by
  apply BitVec.eq_of_getLsbD_eq
  intro k hk
  have hadd : lo + k - lo = k := by omega
  have hbit : (w &&& BitVec.allOnes 64 <<< lo).getLsbD (lo + k) = false := by rw [h]; exact BitVec.getLsbD_zero
  rw [BitVec.getLsbD_and, BitVec.getLsbD_shiftLeft, BitVec.getLsbD_allOnes, hadd] at hbit
  by_cases hin : lo + k < 64
  · simpa [hin, hk] using hbit
  · simp [BitVec.getLsbD_of_ge w (lo + k) (by omega)]

/-- A word of a row has no bit from `lo` up, where the row's mask keeps those bits and its match has none. -/
theorem noBitsFrom_of_row {lo : Nat} (i : Instr) (h : w &&& r.mask = r.pattern)
    (hm : r.mask &&& BitVec.allOnes 64 <<< lo = BitVec.allOnes 64 <<< lo)
    (hp : r.pattern &&& BitVec.allOnes 64 <<< lo = 0) : noBitsFrom w lo i = .ok i := by
  refine noBitsFrom_of_zero (ushiftRight_of_and_highMask ?_)
  rw [← hm, ← BitVec.and_assoc, h, hp]

/-- The bits a row's mask keeps of a field are those of its match. -/
theorem extract_of_row (h : w &&& r.mask = r.pattern) (lo n : Nat)
    (hm : r.mask.extractLsb' lo n = BitVec.allOnes n) : w.extractLsb' lo n = r.pattern.extractLsb' lo n := by
  rw [← h, BitVec.extractLsb'_and, hm, BitVec.and_allOnes]

/-- The decoder accepts the words of every row (30_encoding.md R109). -/
theorem decodes_of_row (hr : r ∈ requestRows) (h : w &&& r.mask = r.pattern) : ∃ i, decodeRequest w = .ok i := by
  have hop := opField_of_selects (selects_of_matches hr h).1
  have hsel := selField_of_selects (selects_of_matches hr h).1
  unfold decodeRequest decodeCmd
  generalize opField w = op at *
  generalize selField w = sel at *
  simp only [requestRows, List.cons_append, List.nil_append, List.mem_cons, List.not_mem_nil, or_false] at hr
  rcases hr with rfl | rfl | rfl | rfl | rfl | rfl | rfl | rfl | rfl | rfl | rfl | rfl | rfl | rfl | rfl | rfl | rfl |
    rfl | rfl | rfl | rfl | rfl | rfl | rfl
  all_goals subst hop
  · exact ⟨_, noBitsFrom_of_row _ h (by decide) (by decide)⟩
  · exact ⟨_, noBitsFrom_of_row _ h (by decide) (by decide)⟩
  · exact ⟨_, noBitsFrom_of_row _ h (by decide) (by decide)⟩
  · exact ⟨_, noBitsFrom_of_row _ h (by decide) (by decide)⟩
  · exact ⟨_, noBitsFrom_of_row _ h (by decide) (by decide)⟩
  · -- MAP: its two reserved bits below the coordinates are 0
    have hreserved := extract_of_row h 4 2 (by decide)
    exact ⟨_, (if_pos hreserved).trans (noBitsFrom_of_row _ h (by decide) (by decide))⟩
  · -- PEEK: its reserved bit below the index is 0
    have hreserved : w.getLsbD 5 = false := by
      have hbit := congrArg (BitVec.getLsbD · 0) (extract_of_row h 5 1 (by decide))
      simpa using hbit
    exact ⟨_, (if_neg (Bool.eq_false_iff.1 hreserved)).trans (noBitsFrom_of_row _ h (by decide) (by decide))⟩
  -- the CMD rows, by their selectors
  all_goals
    obtain rfl := hsel rfl
    exact ⟨_, noBitsFrom_of_row _ h (by decide) (by decide)⟩

end RowWords

/-! #### The obligations -/

section EncodingObligations

/-- Settles O2: a request's word and a well-formed frame are read back, constructor by constructor. -/
theorem decodeEncodeAgree : Obligations.DecodeEncodeAgree := by
  intro i hwf
  cases henc : encode i with
  | request w => exact decodeRequest_encode henc
  | frame op data => exact decodeFrame_encode hwf henc

/-- Settles O3: the decoder's branch fixes OP and SEL and reads the fields the encoder places. -/
theorem encodeDecodeAgree : Obligations.EncodeDecodeAgree :=
  fun _ _ h => ⟨encode_eq_of_decodeRequest h, operandsRead_of_decodeRequest h⟩

/-- Settles O4: a word that decodes is a row's and a row's word decodes; OP and SEL tell the rows apart. -/
theorem decodesExactlyTableRows : Obligations.DecodesExactlyTableRows := by
  have hdistinct : requestRows.Pairwise (· ≠ ·) := by decide
  refine fun w => ⟨⟨fun ⟨i, h⟩ => row_of_decodeRequest h, fun ⟨r, hr, h⟩ => decodes_of_row hr h⟩, ?_⟩
  refine hdistinct.imp_of_mem fun hr hq hne ⟨hwr, hwq⟩ => hne ?_
  exact row_unique_of_selects hr hq (selects_of_matches hr hwr).1 (selects_of_matches hq hwq).1

/-- Settles O1: the decoder evaluated on each word and frame. -/
theorem decodeReadsSpecWords : Obligations.DecodeReadsSpecWords := by
  refine ⟨?_, ?_, ?_, ?_, ?_⟩ <;> decide

end EncodingObligations

end Sys2Proof.Machine

/-! ### The step and the request queue -/

namespace Sys2Proof.Machine

section StepFetch

open Sys2Proof.Claims

variable {s t : State} {op : Byte} {data : List Byte}

/-- An operation that belongs to a frame is a SendCmd or a SendData, which the step runs as its frame. -/
theorem stepBusy_eq_stepFrame (h : frameAt s.seq s.stepCount = some (op, data)) : stepBusy s = stepFrame s := by
  have hk := State.frameOp_of_frameAt h
  unfold stepBusy
  rcases s.frameOp_cases op data with e | ⟨-, e⟩ <;> rw [hk, e]

theorem step_of_frame {i : Instr} (hr : s.ready = false) (hf : frameAt s.seq s.stepCount = some (op, data))
    (hd : decodeFrame op data = .ok i) : step s = exec i s := by
  rw [step, if_neg (by simp [hr]), stepBusy_eq_stepFrame hf, stepFrame, hf]
  simp only [hd]

theorem step_no_request (hr : s.ready = true) (hq : s.requests = []) : step s = .next s := by
  simp [step, stepIdle, hr, hq]

/-- No request's meaning touches the queue (41_sequencer.md R165, R166). -/
theorem RequestNext.requests_eq {i : Instr} (h : RequestNext s i t) : t.requests = s.requests := by
  cases h <;> simp

/-- A step takes one word with READY = 1 and none with READY = 0 (41_sequencer.md R165). -/
theorem step_requests (h : step s = .next t) : t.requests = if s.ready then s.requests.tail else s.requests := by
  cases step_cases h with
  | idle hr hq => simp [hr, hq]
  | illegal w rest e hr hq hd => simp [hr, hq, State.rejectIllegal]
  | request w rest i t hr hq hd ht hn => simp [hr, hq, hn.requests_eq]
  | poll hr hk => simp [hr]
  | pulse ms hr hk => simp [hr]
  | framed op data i hr hf hd hk => simp [hr]

/-- With READY = 1 a step emits nothing (20_memory.md R76). -/
theorem step_ready_trace (h : step s = .next t) (hr : s.ready = true) : t.trace = s.trace := by
  cases hq : s.requests with
  | nil => rw [step_waits h hr hq]
  | cons w rest =>
    rcases step_accepts h hr hq with rfl | ⟨i, hd, hx⟩
    · rfl
    · exact (requestNext_of_exec hd hx).trace_eq

/-- Settles O6: `step` with a presented word that decodes. -/
theorem stepRunsPresentedRequest : Obligations.StepRunsPresentedRequest :=
  fun _ _ _ _ hr hq hd => step_of_request hr hq hd

/-- Settles O7: the operation of a frame is a SendCmd or a SendData, so the step decodes the frame. -/
theorem stepRunsFrameInProgress : Obligations.StepRunsFrameInProgress :=
  fun _ _ _ _ hr hf hd => step_of_frame hr hf hd

/-- Settles O8: what each kind of step does to the queue. -/
theorem requestsHeldWhileBusy : Obligations.RequestsHeldWhileBusy := by
  refine ⟨fun s t h => ⟨fun hr => ?_, fun hr => ?_⟩, fun s hr hq => step_no_request hr hq⟩
  · rw [step_requests h, hr]; rfl
  · rw [step_requests h, hr]; rfl

/-- Settles O54: a step with READY = 1 emits nothing, any other appends the first of one operation's events. -/
theorem traceOnlyGrows : Obligations.TraceOnlyGrows := by
  intro s t h
  cases hr : s.ready with
  | true => exact ⟨[], by rw [step_ready_trace h hr, List.append_nil], fun _ => rfl⟩
  | false =>
    rcases step_trace h with htrace | ⟨_, evs, -, htrace, -⟩
    · exact ⟨[], by rw [htrace, List.append_nil], nofun⟩
    · exact ⟨evs, htrace, nofun⟩

end StepFetch

end Sys2Proof.Machine

/-! ### The CMD forms -/

namespace Sys2Proof.Machine

section CmdForms

open Sys2Proof.Claims

/-- The operations a CMD form starts (40_command_layer.md R122-R142); none for any other instruction. -/
def cmdOperations : Instr → List TransportOp
  | .cmdDriverOutput gates scan => frameDriverOutput gates scan
  | .cmdGateVoltage vdv => frameGateVoltage vdv
  | .cmdBooster inrush => frameBooster inrush
  | .cmdTempSensor ext => frameTempSensor ext
  | .cmdSwReset => frameSwReset ++ [.busyWait]
  | .cmdDataEntry val => frameDataEntry val
  | .cmdRefresh => frameRefresh ++ [.busyWait]
  | .cmdUpdateOpt1 val => frameUpdateOpt1 val
  | .cmdUpdateOpt2 val => frameUpdateOpt2 val
  | .cmdRamXWindow start stop => frameRamXWindow start stop
  | .cmdRamYWindow start stop => frameRamYWindow start stop
  | .cmdFillBw pat => frameFillBw pat
  | .cmdFillRed pat => frameFillRed pat
  | .cmdRamXCounter value => frameRamXCounter value
  | .cmdRamYCounter value => frameRamYCounter value
  | .cmdBorder val => frameBorder val
  | .cmdNop => frameNop
  | _ => []

/-- The STATE a CMD form ends in: SW_RESET after 0x12, and otherwise the one it was accepted in (R121, R127). -/
def cmdFinalState (i : Instr) (s : State) : SeqState := if i = .cmdSwReset then .swReset else s.seqState

variable {i : Instr} {s : State}

/-- All 17 CMD forms run the same way: accepted, then started or rejected (40_command_layer.md R121). -/
theorem exec_cmd (h : isCmd i = true) :
    exec i s = .next ((s.accept 0x7).runCmd (cmdOperations i) (cmdFinalState i s)) := by
  cases i <;> first | rfl | cases h

theorem exec_cmd_ready (h : isCmd i = true) (hs : s.chipReady = true) :
    exec i s = .next ((s.accept 0x7).start (cmdOperations i) (cmdFinalState i s) s.seqState) :=
  (exec_cmd h).trans (congrArg Host.Outcome.next (State.runCmd_ready (s := s.accept 0x7) hs))

theorem exec_cmd_refused (h : isCmd i = true) (hs : s.chipReady = false) :
    exec i s = .next ((s.accept 0x7).reject .state) :=
  (exec_cmd h).trans (congrArg Host.Outcome.next (State.runCmd_other (s := s.accept 0x7) hs))

theorem State.chipReady_eq_false (h1 : s.seqState ≠ .initialized) (h2 : s.seqState ≠ .drawing) :
    s.chipReady = false :=
  Bool.eq_false_iff.2 fun h => (State.chipReady_iff.1 h).elim h1 h2

/-- Settles O25: the 17 forms start `cmdOperations`, which are the frames written out. -/
theorem cmdStartsItsFrame : Obligations.CmdStartsItsFrame := by
  intro s hs
  have starts : ∀ i, isCmd i = true → startsCmd i s (cmdOperations i) (cmdFinalState i s) :=
    fun i hi => exec_cmd_ready hi (State.chipReady_iff.2 hs)
  exact ⟨fun _ _ => starts _ rfl, fun _ => starts _ rfl, fun _ => starts _ rfl, fun _ => starts _ rfl, starts _ rfl,
    fun _ => starts _ rfl, starts _ rfl, fun _ => starts _ rfl, fun _ => starts _ rfl, fun _ _ => starts _ rfl,
    fun _ _ => starts _ rfl, fun _ => starts _ rfl, fun _ => starts _ rfl, fun _ => starts _ rfl,
    fun _ => starts _ rfl, fun _ => starts _ rfl, starts _ rfl⟩

/-- Settles O26: in every other STATE check 2 rejects each of the 17 forms. -/
theorem cmdRefusedElsewhere : Obligations.CmdRefusedElsewhere :=
  fun _ _ hi h1 h2 => exec_cmd_refused hi (State.chipReady_eq_false h1 h2)

end CmdForms

end Sys2Proof.Machine

/-! ### Requests refused, and PEEK -/

namespace Sys2Proof.Machine

section Refusals

open Sys2Proof.Claims

variable {s : State} {p : Plane} {on dark : Bool} {x y : BitVec 16} {index : BitVec 17}

theorem exec_reset_unconfigured (h : s.cfgValid = false) : exec .reset s = .next ((s.accept 0x2).reject .state) :=
  if_neg (by simp [h])

theorem exec_update_refused (bw red : Bool) (mode : UpdateMode) (h : s.chipReady = false) :
    exec (.update bw red mode) s = .next ((s.accept 0x3).reject .state) :=
  if_neg (c := (s.accept 0x3).chipReady = true) (Bool.eq_false_iff.1 h)

theorem exec_map_unconfigured (h : s.cfgValid = false) : exec (.map x y) s = .next ((s.accept 0x6).reject .state) :=
  if_neg (by simp [h])

theorem exec_setPixel_unconfigured (h : s.cfgValid = false) :
    exec (.setPixel p on x y) s = .next ((s.accept 0x4).reject .state) :=
  if_neg (by simp [h])

theorem exec_clear_unconfigured (h : s.cfgValid = false) :
    exec (.clear p dark) s = .next ((s.accept 0x5).reject .state) :=
  if_neg (by simp [h])

theorem exec_peek_unconfigured (h : s.cfgValid = false) :
    exec (.peek p index) s = .next ((s.accept 0x8).reject .state) :=
  if_neg (by simp [h])

/-- A configured block takes SET_PIXEL by its coordinate, and an index that does not exist faults (log 8). -/
theorem exec_setPixel_configured (h : s.cfgValid = true) :
    exec (.setPixel p on x y) s =
      if s.inb x y then
        if (s.mapAt x y).1 < s.fbLen then
          .next ((s.accept 0x4).setPlane p (planeWrite (s.mapAt x y).1
            (pixelByte on (s.byteAt p (s.mapAt x y).1) (s.mapAt x y).2) (s.plane p))).enterDrawing
        else .fault .planeIndex
      else .next ((s.accept 0x4).reject .bounds) :=
  if_pos h

theorem exec_clear_configured (h : s.cfgValid = true) :
    exec (.clear p dark) s = .next ((s.accept 0x5).setPlane p
      (planeFill s.fbLen (fillByte dark) (s.plane p))).enterDrawing :=
  if_pos h

/-- A configured block takes PEEK by its index alone (43_framebuffer.md R234). -/
theorem exec_peek_configured (h : s.cfgValid = true) :
    exec (.peek p index) s =
      if index.toNat < s.fbLen then .next { s.accept 0x8 with data := s.byteAt p index.toNat }
      else .next ((s.accept 0x8).reject .bounds) :=
  if_pos h

/-- Settles O13: check 2 of RESET is CFG_VALID, of UPDATE the STATE. -/
theorem resetAndUpdateRefused : Obligations.ResetAndUpdateRefused :=
  ⟨fun _ h => exec_reset_unconfigured h,
    fun bw red mode _ h1 h2 => exec_update_refused bw red mode (State.chipReady_eq_false h1 h2)⟩

/-- Settles O16: CFG_VALID is checked first, then the coordinate or the index. -/
theorem planeRequestsRefused : Obligations.PlaneRequestsRefused := by
  refine ⟨fun s h => ⟨?_, ?_, ?_, ?_⟩, fun s x y h hout => ⟨?_, fun p on => ?_⟩, fun s p index h hout => ?_⟩
  · exact fun _ _ => exec_map_unconfigured h
  · exact fun _ _ _ _ => exec_setPixel_unconfigured h
  · exact fun _ _ => exec_clear_unconfigured h
  · exact fun _ _ => exec_peek_unconfigured h
  · exact (exec_map_configured h).trans (if_neg (mt (s.inb_iff x y).1 hout))
  · exact (exec_setPixel_configured h).trans (if_neg (mt (s.inb_iff x y).1 hout))
  · rw [← State.fbLen_configured h] at hout
    exact (exec_peek_configured h).trans (if_neg (Nat.not_lt.2 hout))

/-- Settles O18: the coordinate is in bounds, the index is not. -/
theorem setPixelFaultsOutsidePlane : Obligations.SetPixelFaultsOutsidePlane := by
  intro p on x y s h hin hout
  rw [exec_setPixel_configured h, if_pos ((s.inb_iff x y).2 hin), if_neg (Nat.not_lt.2 hout)]

/-- Settles O21: the index is below FB_LEN. -/
theorem peekReadsOneByte : Obligations.PeekReadsOneByte := by
  intro p index s h hlt
  rw [← State.fbLen_configured h] at hlt
  exact (exec_peek_configured h).trans (if_pos hlt)

end Refusals

end Sys2Proof.Machine

/-! ### The mapper and the planes -/

namespace Sys2Proof.Machine

/-! #### The native placement -/

section NativePlacement

open Sys2Proof.Claims

/-- The byte and mask of a native pixel: row by row, eight pixels a byte, the leftmost one in the highest bit
(20_memory.md R74). -/
def nativeBit (W c r : Nat) : Nat × Byte := (c / 8 + W / 8 * r, 0x80#8 >>> (c % 8))

variable {W H x y c r : Nat}

/-- Counting a byte's bits from the other end. -/
theorem shift_mirror {k : Nat} (h : k < 8) : 0x80#8 >>> (7 - k) = 0x01#8 <<< k := by
  have all : ∀ k : Fin 8, 0x80#8 >>> (7 - k.val) = 0x01#8 <<< k.val := by decide
  exact all ⟨k, h⟩

/-- Mirroring a column of a row of whole bytes mirrors its bit within the byte. -/
theorem mirrored_mask (hW : W % 8 = 0) (hc : c < W) : 0x80#8 >>> ((W - 1 - c) % 8) = 0x01#8 <<< (c % 8) := by
  have hmod : (W - 1 - c) % 8 = 7 - c % 8 := by omega
  rw [hmod, shift_mirror (Nat.mod_lt c (by decide))]

/-- Turning the panel by 180 degrees counts the bytes from the other end. -/
theorem mirrored_byte (hW : W % 8 = 0) (hx : x < W) (hy : y < H) :
    W / 8 * H - 1 - (x / 8 + W / 8 * y) = (W - 1 - x) / 8 + W / 8 * (H - 1 - y) := by
  obtain ⟨r, rfl⟩ : ∃ r, H = 1 + y + r := ⟨H - 1 - y, by omega⟩
  have hr : 1 + y + r - 1 - y = r := by omega
  rw [hr, Nat.mul_add, Nat.mul_add, Nat.mul_one]
  omega

theorem nativePixel_inside {rot : Rotation} (h : insideLogical rot W H x y) :
    (nativePixel rot W H x y).1 < W ∧ (nativePixel rot W H x y).2 < H := by
  cases rot <;> simp [insideLogical] at h <;> simp only [nativePixel] <;> omega

/-- The four formulas place the native pixel (42_mapping.md R206). -/
theorem mapPixel_eq_nativeBit {rot : Rotation} (hW : W % 8 = 0) (h : insideLogical rot W H x y) :
    mapPixel rot W H x y = nativeBit W (nativePixel rot W H x y).1 (nativePixel rot W H x y).2 := by
  cases rot with
  | deg0 => rfl
  | deg90 =>
    obtain ⟨-, hy⟩ : x < H ∧ y < W := h
    exact Prod.ext rfl (mirrored_mask hW hy).symm
  | deg180 =>
    obtain ⟨hx, hy⟩ : x < W ∧ y < H := h
    exact Prod.ext (mirrored_byte hW hx hy) (mirrored_mask hW hx).symm
  | deg270 => exact Prod.ext (congrArg (y / 8 + ·) (Nat.mul_comm _ _)) rfl

/-- The rotation moves no two pixels to one place. -/
theorem nativePixel_injective {rot : Rotation} {x' y' : Nat} (h : insideLogical rot W H x y)
    (h' : insideLogical rot W H x' y') (he : nativePixel rot W H x y = nativePixel rot W H x' y') :
    x = x' ∧ y = y' := by
  cases rot <;> simp [insideLogical] at h h' <;> simp only [nativePixel, Prod.mk.injEq] at he <;> omega

/-- The logical coordinate of a native pixel: the rotation back. -/
def logicalPixel (rot : Rotation) (W H c r : Nat) : Nat × Nat :=
  match rot with
  | .deg0 => (c, r)
  | .deg90 => (r, W - 1 - c)
  | .deg180 => (W - 1 - c, H - 1 - r)
  | .deg270 => (H - 1 - r, c)

theorem logicalPixel_inside (rot : Rotation) (hc : c < W) (hr : r < H) :
    insideLogical rot W H (logicalPixel rot W H c r).1 (logicalPixel rot W H c r).2 := by
  cases rot <;> simp [insideLogical, logicalPixel] <;> omega

theorem nativePixel_logicalPixel (rot : Rotation) (hc : c < W) (hr : r < H) :
    nativePixel rot W H (logicalPixel rot W H c r).1 (logicalPixel rot W H c r).2 = (c, r) := by
  cases rot <;> simp [nativePixel, logicalPixel] <;> omega

/-! #### The bits of the plane -/

theorem planeBytes_div (hW : W % 8 = 0) : W * H / 8 = W / 8 * H := by
  obtain ⟨w, rfl⟩ : ∃ w, W = 8 * w := ⟨W / 8, by omega⟩
  rw [Nat.mul_assoc, Nat.mul_div_cancel_left _ (by decide), Nat.mul_div_cancel_left _ (by decide)]

theorem nativeBit_lt (hW : W % 8 = 0) (hc : c < W) (hr : r < H) : (nativeBit W c r).1 < W * H / 8 := by
  rw [planeBytes_div hW]
  calc c / 8 + W / 8 * r < W / 8 + W / 8 * r := by omega
    _ = W / 8 * (r + 1) := by rw [Nat.mul_succ, Nat.add_comm]
    _ ≤ W / 8 * H := Nat.mul_le_mul_left _ hr

theorem shift_oneHot : ∀ k : Fin 8, oneHot (0x80#8 >>> k.val) = true := by decide

theorem nativeBit_oneHot (W c r : Nat) : oneHot (nativeBit W c r).2 = true :=
  shift_oneHot ⟨c % 8, Nat.mod_lt c (by decide)⟩

theorem shift_injective : ∀ j k : Fin 8, 0x80#8 >>> j.val = 0x80#8 >>> k.val → j = k := by decide

/-- A mask with one bit is one of the eight. -/
theorem exists_shift_of_oneHot : ∀ m : Byte, oneHot m = true → ∃ k : Fin 8, m = 0x80#8 >>> k.val := by
  intro m hm
  simp only [oneHot, decide_eq_true_eq, List.mem_cons, List.not_mem_nil, or_false] at hm
  rcases hm with rfl | rfl | rfl | rfl | rfl | rfl | rfl | rfl <;> decide

/-- Distinct pixels of the panel have distinct bits: the byte's place in its row and the row are its index's
remainder and quotient. -/
theorem nativeBit_injective {c' r' : Nat} (hW : W % 8 = 0) (hc : c < W) (hc' : c' < W)
    (h : nativeBit W c r = nativeBit W c' r') : c = c' ∧ r = r' := by
  obtain ⟨hbyte, hmask⟩ := Prod.mk.inj h
  have hbit := shift_injective ⟨c % 8, Nat.mod_lt c (by decide)⟩ ⟨c' % 8, Nat.mod_lt c' (by decide)⟩ hmask
  have hbit : c % 8 = c' % 8 := congrArg Fin.val hbit
  have hrow : c / 8 < W / 8 := by omega
  have hrow' : c' / 8 < W / 8 := by omega
  have hmod := congrArg (· % (W / 8)) hbyte
  have hdiv := congrArg (· / (W / 8)) hbyte
  simp only [Nat.add_mul_mod_self_left, Nat.mod_eq_of_lt hrow, Nat.mod_eq_of_lt hrow'] at hmod
  simp only [Nat.add_mul_div_left _ _ (Nat.zero_lt_of_lt hrow), Nat.div_eq_of_lt hrow, Nat.div_eq_of_lt hrow',
    Nat.zero_add] at hdiv
  exact ⟨by omega, hdiv⟩

/-- Every bit of every byte of the plane is some native pixel's. -/
theorem exists_nativeBit {i : Nat} {m : Byte} (hW : W % 8 = 0) (hi : i < W * H / 8) (hm : oneHot m = true) :
    ∃ c r, c < W ∧ r < H ∧ nativeBit W c r = (i, m) := by
  obtain ⟨k, rfl⟩ := exists_shift_of_oneHot m hm
  have hk := k.isLt
  rw [planeBytes_div hW] at hi
  have hpos : 0 < W / 8 := Nat.pos_of_ne_zero fun h0 => by simp [h0] at hi
  have hmod := Nat.mod_lt i hpos
  refine ⟨8 * (i % (W / 8)) + k.val, i / (W / 8), by omega, Nat.div_lt_of_lt_mul hi, ?_⟩
  have hbyte : (8 * (i % (W / 8)) + k.val) / 8 = i % (W / 8) := by omega
  have hbit : (8 * (i % (W / 8)) + k.val) % 8 = k.val := by omega
  rw [nativeBit, hbyte, hbit, Nat.mod_add_div]

/-! #### The obligations -/

/-- Settles O22: each formula places the rotated pixel, and the rotation back is its inverse. -/
theorem mapperIsNativePlacement : Obligations.MapperIsNativePlacement := by
  intro rot W H hW
  refine ⟨fun x y h => ?_, fun x y x' y' h h' he => nativePixel_injective h h' he, fun c r hc hr => ?_⟩
  · exact ⟨(nativePixel_inside h).1, (nativePixel_inside h).2, mapPixel_eq_nativeBit hW h⟩
  · exact ⟨_, _, logicalPixel_inside rot hc hr, nativePixel_logicalPixel rot hc hr⟩

/-- The mapper stays inside the plane and names one bit (42_mapping.md R207). -/
theorem mapPixel_inside {rot : Rotation} (hW : W % 8 = 0) (h : insideLogical rot W H x y) :
    (mapPixel rot W H x y).1 < W * H / 8 ∧ oneHot (mapPixel rot W H x y).2 = true := by
  obtain ⟨hc, hr⟩ := nativePixel_inside h
  rw [mapPixel_eq_nativeBit hW h]
  exact ⟨nativeBit_lt hW hc hr, nativeBit_oneHot _ _ _⟩

/-- Settles O23: the native pixel's byte lies inside the plane, which has at most 81600 bytes. -/
theorem mapperStaysInPlane : Obligations.MapperStaysInPlane := by
  intro rot rows cols x y hdims h
  have hle := planeBytes_le hdims
  obtain ⟨-, -, -, -, hmod⟩ := hdims
  obtain ⟨hlt, hmask⟩ := mapPixel_inside hmod h
  rw [Nat.mul_comm] at hle
  exact ⟨hlt, hmask, by omega, by decide, by decide⟩

/-- Settles O24: the mapper is the rotation, a bijection of the pixels, and then the placement, one of the bits. -/
theorem mapperIsBijection : Obligations.MapperIsBijection := by
  refine fun rot W H hW => ⟨fun x y x' y' h h' he => ?_, fun i m hi hm => ?_⟩
  · rw [mapPixel_eq_nativeBit hW h, mapPixel_eq_nativeBit hW h'] at he
    obtain ⟨h1, h2⟩ := nativeBit_injective hW (nativePixel_inside h).1 (nativePixel_inside h').1 he
    exact nativePixel_injective h h' (Prod.ext h1 h2)
  · obtain ⟨c, r, hc, hr, hbit⟩ := exists_nativeBit hW hi hm
    have hin := logicalPixel_inside rot hc hr
    refine ⟨_, _, hin, ?_⟩
    rw [mapPixel_eq_nativeBit hW hin, nativePixel_logicalPixel rot hc hr, hbit]

end NativePlacement

end Sys2Proof.Machine

namespace Sys2Proof.Machine

/-! #### Drawing -/

section Drawing

open Sys2Proof.Claims

variable {s : State} {x y : BitVec 16}

/-- A valid configuration maps every coordinate in bounds to a byte that exists (42_mapping.md R207). -/
theorem State.mapAt_inside (hc : s.cfgValid = true) (hdims : dimsInRange s.rows s.cols) (hin : s.inb x y = true) :
    (s.mapAt x y).1 < s.fbLen ∧ oneHot (s.mapAt x y).2 = true := by
  obtain ⟨-, -, -, -, hmod⟩ := hdims
  rw [State.fbLen_configured hc, Nat.mul_comm]
  exact mapPixel_inside hmod ((s.inb_iff x y).1 hin)

theorem State.fbLen_le (hc : s.cfgValid = true) (hdims : dimsInRange s.rows s.cols) : s.fbLen ≤ 81600 := by
  rw [State.fbLen_configured hc]
  exact planeBytes_le hdims

/-- SET_PIXEL and CLEAR write planes, LAST_OP, ERR, STEP, and move INITIALIZED to DRAWING; nothing else. -/
theorem State.drawn_eq (s : State) (op : BitVec 4) (p : Plane) (m : Memory) :
    ({ ((s.accept op).setPlane p m).enterDrawing with bw := s.bw, red := s.red } : State) =
      { s with lastOp := op, err := .none, stepCount := 0,
               seqState := if s.seqState = .initialized then .drawing else s.seqState } := by
  have hstate : ((s.accept op).setPlane p m).seqState = s.seqState := State.setPlane_seqState _ _ _
  unfold State.enterDrawing
  rw [hstate]
  split_ifs <;> cases p <;> rfl

theorem State.enterDrawing_plane (s : State) (p : Plane) : s.enterDrawing.plane p = s.plane p := by
  cases p <;> simp [State.plane]

theorem State.enterDrawing_byteAt (s : State) (p : Plane) (a : Nat) : s.enterDrawing.byteAt p a = s.byteAt p a :=
  State.byteAt_congr (s.enterDrawing_plane p) a

/-- Settles O17: the pixel's byte exists, and the write reads back there and nowhere else. -/
theorem setPixelWritesOneBit : Obligations.SetPixelWritesOneBit := by
  intro p on x y s hc hdims hlogical
  have hin := (s.inb_iff x y).2 hlogical
  have hexec := exec_setPixel_configured (p := p) (on := on) (x := x) (y := y) hc
  rw [if_pos hin, if_pos (State.mapAt_inside hc hdims hin).1] at hexec
  refine ⟨_, hexec, ?_, fun q a hqa => ?_, s.drawn_eq 0x4 p _⟩
  · rw [State.enterDrawing_byteAt]
    exact State.byteAt_write_same (s.accept 0x4) p _ _
  · rw [State.enterDrawing_byteAt]
    exact State.byteAt_write_other (s.accept 0x4) p q _ hqa

/-- Settles O19: the fill reads back below FB_LEN, every other byte as before. -/
theorem clearFillsOnePlane : Obligations.ClearFillsOnePlane := by
  intro p dark s hc
  have hread (q : Plane) (a : Nat) := State.byteAt_fill (s.accept 0x5) p q s.fbLen a (fillByte dark)
  refine ⟨_, exec_clear_configured hc, fun a ha => ?_, fun q a hqa => ?_, s.drawn_eq 0x5 p _⟩ <;>
    rw [← State.fbLen_configured hc] at *
  · rw [State.enterDrawing_byteAt]
    exact (hread p a).trans (if_pos ⟨rfl, ha⟩)
  · rw [State.enterDrawing_byteAt]
    exact (hread q a).trans (if_neg fun ⟨hq, ha⟩ => hqa.elim (absurd hq) (Nat.not_le.2 ha))

/-! #### Filling is writing in order -/

/-- What a canonical memory lists is what it reads: no address is listed twice. -/
theorem planeFind_eq_some_iff {m : Memory} (h : m.wf) (a : Nat) (v : Byte) : planeFind a m = some v ↔ (a, v) ∈ m := by
  induction m with
  | nil => simp [planeFind]
  | cons d m ih =>
    obtain ⟨b, w⟩ := d
    obtain ⟨hb, hm⟩ := List.pairwise_cons.1 h
    rw [planeFind, List.mem_cons, Prod.mk.injEq, ← ih hm]
    split_ifs with hab
    · subst hab
      have hnew : planeFind a m ≠ some v := fun hf => Nat.lt_irrefl a (hb (a, v) ((ih hm).1 hf))
      simp [hnew, eq_comm]
    · simp [hab]

/-- Two canonical memories that read the same everywhere are the same. -/
theorem memory_ext {m k : Memory} (hm : m.wf) (hk : k.wf) (h : ∀ a, planeFind a m = planeFind a k) : m = k := by
  have hirrefl : Std.Irrefl (fun c d : Host.Cell => c.1 < d.1) := ⟨fun c => Nat.lt_irrefl c.1⟩
  have hantisymm : Std.Antisymm (fun c d : Host.Cell => c.1 < d.1) := ⟨fun c d h1 h2 => absurd h2 (Nat.lt_asymm h1)⟩
  refine hm.eq_of_mem_iff hk fun ⟨a, v⟩ => ?_
  rw [← planeFind_eq_some_iff hm, ← planeFind_eq_some_iff hk, h]

theorem planeFill_zero (v : Byte) (m : Memory) : planeFill 0 v m = m := by
  simp [planeFill]

/-- The fill of one more byte is one more write. -/
theorem planeFill_succ (n : Nat) (v : Byte) {m : Memory} (h : m.wf) :
    planeFill (n + 1) v m = planeWrite n v (planeFill n v m) := by
  refine memory_ext (planeFill_wf _ v h) (planeWrite_wf n v (planeFill_wf n v h)) fun a => ?_
  by_cases ha : a = n
  · subst ha
    rw [planeFind_write_same, planeFind_fill, if_pos (Nat.lt_succ_self a)]
  · have hlt : a < n + 1 ↔ a < n := by omega
    rw [planeFind_write_other v _ ha, planeFind_fill, planeFind_fill, if_congr hlt rfl rfl]

/-- Settles O20: by induction on the number of bytes, each fill one write more than the one before. -/
theorem fillIsWritesInOrder : Obligations.FillIsWritesInOrder := by
  intro n v m hm
  induction n with
  | zero => exact planeFill_zero v m
  | succ n ih => rw [List.range_succ, List.foldl_append, ← ih, planeFill_succ n v hm]; rfl

/-! #### Who writes the planes -/

/-- Settles O53: of everything a step can do, only the SET_PIXEL and the CLEAR of a plane that succeed change a byte
of it, and each reads back as it wrote. -/
theorem onlyDrawingWritesPlanes : Obligations.OnlyDrawingWritesPlanes := by
  intro s t p a h hne
  have unchanged : t.plane p = s.plane p → False := fun e => hne (State.byteAt_congr e a)
  cases step_cases h with
  | idle => exact absurd rfl hne
  | illegal => exact (unchanged (by cases p <;> rfl)).elim
  | poll => exact (unchanged (by cases p <;> simp [State.plane])).elim
  | pulse => exact (unchanged (by cases p <;> simp [State.plane])).elim
  | framed => exact (unchanged (by cases p <;> simp [State.plane])).elim
  | request w rest i t hr hq hd ht hn =>
    cases hn with
    | rejected => exact (unchanged (by cases p <;> rfl)).elim
    | started => exact (unchanged (by cases p <;> rfl)).elim
    | configured => exact (unchanged (by cases p <;> rfl)).elim
    | mapped => exact (unchanged (by cases p <;> rfl)).elim
    | peeked => exact (unchanged (by cases p <;> rfl)).elim
    | pixelSet q on x y hc hb hi =>
      rw [State.enterDrawing_byteAt] at hne
      have hhit : p = q ∧ a = (s.mapAt x y).1 := by
        by_contra hmiss
        rw [not_and_or] at hmiss
        exact hne (State.byteAt_write_other (({ s with requests := rest } : State).accept 0x4) q p _ hmiss)
      obtain ⟨rfl, ha⟩ := hhit
      exact ⟨w, rest, hr, hq, by simp, .inl ⟨on, x, y, hd, ha⟩⟩
    | cleared q dark hc =>
      rw [State.enterDrawing_byteAt] at hne
      have hhit : p = q ∧ a < s.fbLen := by
        by_contra hmiss
        refine hne ?_
        exact (State.byteAt_fill (({ s with requests := rest } : State).accept 0x5) q p _ a _).trans (if_neg hmiss)
      obtain ⟨rfl, ha⟩ := hhit
      exact ⟨w, rest, hr, hq, by simp, .inr ⟨dark, hd, ha⟩⟩

end Drawing

end Sys2Proof.Machine

/-! ### The storage invariant -/

namespace Sys2Proof.Machine

section Storage

open Sys2Proof.Claims

variable {s t : State}

/-- What the storage invariant is about: the configuration, the planes and RESULT. -/
structure SameStorage (s t : State) : Prop where
  cfgValid : t.cfgValid = s.cfgValid
  rows : t.rows = s.rows
  cols : t.cols = s.cols
  rot : t.rot = s.rot
  autoUpdate : t.autoUpdate = s.autoUpdate
  byteIndex : t.byteIndex = s.byteIndex
  mask : t.mask = s.mask
  bw : t.bw = s.bw
  red : t.red = s.red

theorem SameStorage.fbLen (h : SameStorage s t) : t.fbLen = s.fbLen := State.fbLen_congr h.cfgValid h.rows h.cols

namespace State.StorageOk

theorem congr (h : s.StorageOk) (hst : SameStorage s t) : t.StorageOk where
  bwForm := by rw [hst.bw]; exact h.bwForm
  redForm := by rw [hst.red]; exact h.redForm
  bwInside := by rw [hst.bw, hst.fbLen]; exact h.bwInside
  redInside := by rw [hst.red, hst.fbLen]; exact h.redInside
  dims := by rw [hst.cfgValid, hst.rows, hst.cols]; exact h.dims
  dimsZero := by rw [hst.cfgValid, hst.rows, hst.cols, hst.rot, hst.autoUpdate]; exact h.dimsZero
  result := by rw [hst.byteIndex, hst.mask, hst.fbLen]; exact h.result

theorem dimsInRange (h : s.StorageOk) (hc : s.cfgValid = true) : dimsInRange s.rows s.cols :=
  (validDims_iff _ _).1 (h.dims hc)

theorem planeForm (h : s.StorageOk) (p : Plane) : (s.plane p).wf := by
  cases p with
  | bw => exact h.bwForm
  | red => exact h.redForm

theorem planeInside (h : s.StorageOk) (p : Plane) : (s.plane p).inside s.fbLen := by
  cases p with
  | bw => exact h.bwInside
  | red => exact h.redInside

/-- A plane may be replaced by one of canonical form inside FB_LEN. -/
theorem setPlane (h : s.StorageOk) (p : Plane) {m : Memory} (hform : m.wf) (hinside : m.inside s.fbLen) :
    (s.setPlane p m).StorageOk := by
  cases p with
  | bw => exact { h with bwForm := hform, bwInside := hinside }
  | red => exact { h with redForm := hform, redInside := hinside }

/-- Before CONFIGURE no byte exists, so no plane lists one. -/
theorem plane_unconfigured (h : s.StorageOk) (hc : s.cfgValid = false) (p : Plane) : s.plane p = [] := by
  refine List.eq_nil_iff_forall_not_mem.2 fun c hmem => ?_
  have hlt := h.planeInside p c hmem
  rw [State.fbLen_unconfigured hc] at hlt
  exact Nat.not_lt_zero _ hlt

/-- Before CONFIGURE no MAP has succeeded. -/
theorem result_unconfigured (h : s.StorageOk) (hc : s.cfgValid = false) : s.byteIndex = 0 ∧ s.mask = 0 := by
  refine h.result.resolve_right fun ⟨hlt, _⟩ => ?_
  rw [State.fbLen_unconfigured hc] at hlt
  exact Nat.not_lt_zero _ hlt

/-- A successful CONFIGURE finds the planes and RESULT empty (41_sequencer.md R170). -/
theorem configured (h : s.StorageOk) (hc : s.cfgValid = false) {rows cols : BitVec 16} (rot : Rotation) (auto : Bool)
    (hv : validDims rows cols = true) :
    ({ s with rows := rows, cols := cols, rot := rot, autoUpdate := auto, cfgValid := true } : State).StorageOk where
  bwForm := h.bwForm
  redForm := h.redForm
  bwInside := by
    have hnil : s.bw = [] := h.plane_unconfigured hc .bw
    simp [hnil, Memory.inside]
  redInside := by
    have hnil : s.red = [] := h.plane_unconfigured hc .red
    simp [hnil, Memory.inside]
  dims := fun _ => hv
  dimsZero := nofun
  result := .inl (h.result_unconfigured hc)

/-- A successful MAP leaves the index and mask of a bit of the plane; the index fits BYTE_INDEX (42_mapping.md
R207). -/
theorem mapped (h : s.StorageOk) (hc : s.cfgValid = true) {x y : BitVec 16} (hin : s.inb x y = true) :
    ({ s with byteIndex := BitVec.ofNat 17 (s.mapAt x y).1, mask := (s.mapAt x y).2 } : State).StorageOk := by
  obtain ⟨hlt, hmask⟩ := State.mapAt_inside hc (h.dimsInRange hc) hin
  have hle := State.fbLen_le hc (h.dimsInRange hc)
  have hfits : (BitVec.ofNat 17 (s.mapAt x y).1).toNat = (s.mapAt x y).1 :=
    Nat.mod_eq_of_lt (Nat.lt_trans hlt (Nat.lt_of_le_of_lt hle (by decide)))
  exact { h with result := .inr ⟨hfits.symm ▸ hlt, hmask⟩ }

theorem accept (h : s.StorageOk) (op : BitVec 4) : (s.accept op).StorageOk := h.congr (by constructor <;> rfl)

theorem enterDrawing (h : s.StorageOk) : s.enterDrawing.StorageOk := h.congr (by constructor <;> simp)

/-- Every request keeps the storage invariant. -/
theorem request {i : Instr} (h : s.StorageOk) (hn : RequestNext s i t) : t.StorageOk := by
  cases hn with
  | rejected => exact h.congr (by constructor <;> rfl)
  | started => exact h.congr (by constructor <;> rfl)
  | configured rows cols rot auto hc hv => exact (h.accept 0x1).configured hc rot auto hv
  | mapped x y hc hin => exact (h.accept 0x6).mapped hc hin
  | pixelSet p on x y hc hin hlt =>
    have hform := planeWrite_wf (s.mapAt x y).1 (pixelByte on (s.byteAt p (s.mapAt x y).1) (s.mapAt x y).2)
      (h.planeForm p)
    exact ((h.accept 0x4).setPlane p hform (planeWrite_inside _ (h.planeInside p) hlt)).enterDrawing
  | cleared p dark hc =>
    have hform := planeFill_wf s.fbLen (fillByte dark) (h.planeForm p)
    exact ((h.accept 0x5).setPlane p hform (planeFill_inside _ (h.planeInside p) le_rfl)).enterDrawing
  | peeked => exact h.congr (by constructor <;> rfl)

theorem step (h : s.StorageOk) (hstep : step s = .next t) : t.StorageOk := by
  cases step_cases hstep with
  | idle => exact h
  | illegal => exact h.congr (by constructor <;> rfl)
  | request w rest i t hr hq hd ht hn =>
    have hrest : ({ s with requests := rest } : State).StorageOk := h.congr (by constructor <;> rfl)
    exact hrest.request hn
  | poll => exact h.congr (by constructor <;> simp)
  | pulse => exact h.congr (by constructor <;> simp)
  | framed => exact h.congr (by constructor <;> simp)

end State.StorageOk

/-- Settles O45: only CONFIGURE, MAP, SET_PIXEL and CLEAR write storage, and each keeps the invariant. -/
theorem stepKeepsStorage : Obligations.StepKeepsStorage :=
  fun _ _ h hstep => h.step hstep

end Storage

end Sys2Proof.Machine

/-! ### The sequencer invariant -/

namespace Sys2Proof.Machine

/-! #### Sequences whose every operation can be performed -/

section RunnableSequences

variable {a b : List TransportOp} {j k : Nat} {op : Byte}

theorem frameAt_cmd_data {d : List Byte} (h : a[k]? = some (.sendCmd op)) (hd : a[k + 1]? = some (.sendData d)) :
    frameAt a k = some (op, d) := by
  simp [frameAt, h, hd]

theorem frameAt_cmd_alone (h : a[k]? = some (.sendCmd op)) (hd : ∀ d, a[k + 1]? ≠ some (.sendData d)) :
    frameAt a k = some (op, []) := by
  simp [frameAt, h]

/-- The frame an operation belongs to depends on it, on the data after it, and, if it is data, on the operation
before it. -/
theorem frameAt_congr (hop : a[j]? = b[k]?)
    (hnext : ∀ d, a[j + 1]? = some (.sendData d) ↔ b[k + 1]? = some (.sendData d))
    (hprev : ∀ d, b[k]? = some (.sendData d) → ∃ j' k', j = j' + 1 ∧ k = k' + 1 ∧ a[j']? = b[k']?) :
    frameAt a j = frameAt b k := by
  cases hb : b[k]? with
  | none => simp [frameAt, hop, hb]
  | some o =>
    cases o with
    | busyWait => simp [frameAt, hop, hb]
    | resetPulse ms => simp [frameAt, hop, hb]
    | sendCmd op =>
      by_cases hd : ∃ d, b[k + 1]? = some (.sendData d)
      · obtain ⟨d, hd⟩ := hd
        rw [frameAt_cmd_data (hop.trans hb) ((hnext d).2 hd), frameAt_cmd_data hb hd]
      · rw [not_exists] at hd
        rw [frameAt_cmd_alone (hop.trans hb) fun d h => hd d ((hnext d).1 h), frameAt_cmd_alone hb hd]
    | sendData d =>
      obtain ⟨j', k', rfl, rfl, hbefore⟩ := hprev d hb
      cases d with
      | nil => simp [frameAt, hop, hb]
      | cons c d =>
        simp only [frameAt, hop, hb]
        rw [hbefore]

/-- Whether an operation can be performed depends on it and its frame. -/
theorem opRuns_congr (hop : a[j]? = b[k]?) (hframe : frameAt a j = frameAt b k) : opRuns a j = opRuns b k := by
  unfold opRuns
  rw [hop, hframe]

/-- Every operation of a SEQ can be performed, and it does not begin with data, so it may follow any other. -/
structure Runnable (seq : List TransportOp) : Prop where
  head : ∀ l, seq[0]? ≠ some (.sendData l)
  runs : ∀ k < seq.length, opRuns seq k = true

namespace Runnable

theorem nil : Runnable [] := ⟨nofun, nofun⟩

/-- A sequence may stand before another. -/
theorem opRuns_left (ha : Runnable a) (hb : Runnable b) (hk : k < a.length) : opRuns (a ++ b) k = opRuns a k := by
  have hop : (a ++ b)[k]? = a[k]? := List.getElem?_append_left hk
  refine opRuns_congr hop (frameAt_congr hop (fun d => ?_) fun d hd => ?_)
  · by_cases hlast : k + 1 < a.length
    · rw [List.getElem?_append_left hlast]
    · have hlen : k + 1 - a.length = 0 := by omega
      rw [List.getElem?_append_right (by omega), hlen, List.getElem?_eq_none (Nat.not_lt.1 hlast)]
      exact iff_of_false (hb.head d) nofun
  · obtain ⟨j, rfl⟩ := Nat.exists_eq_add_one_of_ne_zero (n := k) (by rintro rfl; exact ha.head d hd)
    exact ⟨j, j, rfl, rfl, List.getElem?_append_left (by omega)⟩

/-- A sequence may stand after another. -/
theorem opRuns_right (a : List TransportOp) (hb : Runnable b) (k : Nat) :
    opRuns (a ++ b) (a.length + k) = opRuns b k := by
  have hget (j : Nat) : (a ++ b)[a.length + j]? = b[j]? := by
    rw [List.getElem?_append_right (Nat.le_add_right _ _), Nat.add_sub_cancel_left]
  refine opRuns_congr (hget k) (frameAt_congr (hget k) (fun d => by rw [Nat.add_assoc, hget]) fun d hd => ?_)
  obtain ⟨j, rfl⟩ := Nat.exists_eq_add_one_of_ne_zero (n := k) (by rintro rfl; exact hb.head d hd)
  exact ⟨a.length + j, j, rfl, rfl, hget j⟩

theorem append (ha : Runnable a) (hb : Runnable b) : Runnable (a ++ b) where
  head l := by
    cases a with
    | nil => exact hb.head l
    | cons op a => exact ha.head l
  runs k hk := by
    by_cases hleft : k < a.length
    · rw [ha.opRuns_left hb hleft]
      exact ha.runs k hleft
    · obtain ⟨j, rfl⟩ := Nat.exists_eq_add_of_le (Nat.not_lt.1 hleft)
      rw [opRuns_right a hb]
      exact hb.runs j (by simpa using hk)

theorem busyWait : Runnable [.busyWait] where
  head := nofun
  runs k hk := by
    obtain rfl : k = 0 := Nat.lt_one_iff.1 hk
    rfl

theorem resetPulse (ms : Nat) : Runnable [.resetPulse ms] where
  head := nofun
  runs k hk := by
    obtain rfl : k = 0 := Nat.lt_one_iff.1 hk
    rfl

/-- A frame that decodes can be performed, its command byte and its data. -/
theorem frame {data : List Byte} (h : (decodeFrame op data).toBool = true) : Runnable (frame op data) := by
  cases data with
  | nil =>
    refine ⟨nofun, fun k hk => ?_⟩
    obtain rfl : k = 0 := Nat.lt_one_iff.1 hk
    exact h
  | cons c d =>
    refine ⟨nofun, fun k hk => ?_⟩
    have hk : k < 2 := hk
    obtain rfl | rfl : k = 0 ∨ k = 1 := by omega
    · exact h
    · exact h

/-! The SEQs of the requests (41_sequencer.md R175, R177, R180; 40_command_layer.md R127, R129). -/

theorem resetOperations (rows cols : BitVec 16) : Runnable (resetSeq ++ initSeq rows cols) := by
  have hwindowX : Runnable (frameRamXWindow 0 (Config.xEnd cols)) := frame (decodeFrame_window (.inl rfl) _ _)
  have hwindowY : Runnable (frameRamYWindow 0 (Config.yEnd rows)) := frame (decodeFrame_window (.inr rfl) _ _)
  refine append (append (append (resetPulse _) (frame rfl)) busyWait) ?_
  refine append (append (append (append (append (append (append (append (append (append ?_ ?_) ?_) ?_) hwindowX)
    hwindowY) ?_) ?_) ?_) ?_) busyWait
  all_goals exact frame rfl

/-- UPDATE can be performed when the planes have a byte to send (40_command_layer.md R139). -/
theorem updateOperations (bw red : Bool) (mode : UpdateMode) {s : State} (h : 0 < s.fbLen) :
    Runnable (updateSeq bw red mode s) := by
  have hbytes (p : Plane) : s.planeBytes p ≠ [] := by
    simp [State.planeBytes, Nat.ne_of_gt h]
  have hcounters : Runnable counterReset := append (frame rfl) (frame rfl)
  have hbw : Runnable (frameWriteBwRam (s.planeBytes .bw)) :=
    frame (congrArg Except.toBool (frameDataN_of_ne_nil (op := 0x24) (k := .busWriteBwRam) (hbytes .bw)))
  have hred : Runnable (frameWriteRedRam (s.planeBytes .red)) :=
    frame (congrArg Except.toBool (frameDataN_of_ne_nil (op := 0x26) (k := .busWriteRedRam) (hbytes .red)))
  refine append (append (append (append ?_ ?_) (frame rfl)) (frame rfl)) busyWait
  · cases bw with
    | true => exact hcounters.append hbw
    | false => exact nil
  · cases red with
    | true => exact hcounters.append hred
    | false => exact nil

end Runnable

end RunnableSequences

end Sys2Proof.Machine

namespace Sys2Proof.Machine

/-! #### The rules of the sequencer invariant -/

section SequencerInvariant

open Sys2Proof.Claims

variable {s t : State} {op : BitVec 4} {seq : List TransportOp} {final entry : SeqState}

/-- What the sequencer invariant is about. -/
structure SameSequencer (s t : State) : Prop where
  ready : t.ready = s.ready
  cfgValid : t.cfgValid = s.cfgValid
  seqState : t.seqState = s.seqState
  err : t.err = s.err
  lastOp : t.lastOp = s.lastOp
  stepCount : t.stepCount = s.stepCount
  seq : t.seq = s.seq
  polls : t.polls = s.polls
  finalState : t.finalState = s.finalState
  busyMaxPolls : t.busyMaxPolls = s.busyMaxPolls

/-- The STATEs a request can be accepted in (41_sequencer.md R190). -/
def restStates : List SeqState := [.unreset, .swReset, .initialized, .drawing, .indeterminate]

theorem mem_restStates_of_chipReady (h : s.chipReady = true) : s.seqState ∈ restStates := by
  rcases State.chipReady_iff.1 h with e | e <;> rw [e] <;> decide

/-- A request in progress ends in a STATE that requests are accepted in. -/
theorem State.runningState.final_mem (h : s.runningState) : s.finalState ∈ restStates := by
  rcases h with ⟨-, hf, -⟩ | ⟨-, hf, -⟩ | ⟨-, hchip, hf | hf⟩ <;> rw [hf]
  · decide
  · decide
  · decide
  · exact mem_restStates_of_chipReady hchip

/-- Outside RESET no operation changes STATE (41_sequencer.md R179). -/
theorem State.midState_of_not_reset (h : s.lastOp ≠ 0x2) (n : Nat) : s.midState n = s.seqState := by
  rw [State.midState, if_neg fun hn => h hn.1, if_neg fun hn => h hn.1]

/-- STATE follows the operations of RESET and stands still in every other request. -/
theorem State.runningState.advance (h : s.runningState) :
    ({ s with stepCount := s.stepCount + 1, seqState := s.midState (s.stepCount + 1) } : State).runningState := by
  rcases h with ⟨hop, hf, hstate⟩ | ⟨hop, hf, hstate⟩ | ⟨hop, hchip, hf⟩
  · refine .inl ⟨hop, hf, ?_⟩
    simp only [State.midState, hop, hstate, true_and]
    split_ifs <;> first | rfl | omega
  · have hmid := s.midState_of_not_reset (by rw [hop]; decide) (s.stepCount + 1)
    exact .inr (.inl ⟨hop, hf, hmid.trans hstate⟩)
  · have hmid := s.midState_of_not_reset (by rw [hop]; decide) (s.stepCount + 1)
    rw [hmid]
    exact .inr (.inr ⟨hop, hchip, hf⟩)

namespace State.SequencerOk

theorem congr (h : s.SequencerOk) (hst : SameSequencer s t) : t.SequencerOk where
  atRest := by rw [hst.ready, hst.seq, hst.seqState]; exact h.atRest
  inProgress := by
    rw [hst.ready, hst.stepCount, hst.seq, hst.err]
    simp only [State.runningState, State.chipReady, hst.lastOp, hst.finalState, hst.seqState, hst.stepCount]
    exact h.inProgress
  short := by rw [hst.seq, hst.stepCount]; exact h.short
  failed := by rw [hst.err, hst.ready, hst.seqState]; exact h.failed
  unconfigured := by rw [hst.cfgValid, hst.ready, hst.seqState]; exact h.unconfigured
  bound := by rw [hst.busyMaxPolls]; exact h.bound
  polling := by rw [hst.ready, hst.seq, hst.stepCount, hst.busyMaxPolls, hst.polls]; exact h.polling

/-- A request in progress is a configured block's. -/
theorem configured_of_busy (h : s.SequencerOk) (hr : s.ready = false) : s.cfgValid = true := by
  refine Bool.eq_true_of_not_eq_false fun hc => ?_
  rw [(h.unconfigured hc).1] at hr
  cases hr

/-- A block that talks to the chip is configured. -/
theorem configured_of_chipReady (h : s.SequencerOk) (hchip : s.chipReady = true) : s.cfgValid = true := by
  refine Bool.eq_true_of_not_eq_false fun hc => ?_
  rw [State.chipReady_iff, (h.unconfigured hc).2] at hchip
  simp at hchip

/-- The invariant of a block at rest with nothing left of a SEQ. -/
theorem rest (hready : t.ready = true) (hseq : t.seq = []) (hstate : t.seqState ∈ restStates)
    (hcount : t.stepCount ≤ 23) (hfailed : t.err = .transport ∨ t.err = .timeout → t.seqState = .indeterminate)
    (hcfg : t.cfgValid = false → t.seqState = .unreset) (hbound : t.busyMaxPolls ≠ some 0) : t.SequencerOk where
  atRest _ := ⟨hseq, hstate⟩
  inProgress hr := by rw [hready] at hr; cases hr
  short := ⟨by rw [hseq]; exact Nat.zero_le 23, hcount⟩
  failed he := ⟨hready, hfailed he⟩
  unconfigured hc := ⟨hready, hcfg hc⟩
  bound := hbound
  polling hr := by rw [hready] at hr; cases hr

/-- A request accepted at rest that completes at once (41_sequencer.md R166): nothing is left of a SEQ, and STATE is
as before, or DRAWING on a configured block (R191). -/
theorem completed (h : s.SequencerOk) (hr : s.ready = true) (hready : t.ready = s.ready) (hseq : t.seq = s.seq)
    (hcount : t.stepCount = 0) (herr : t.err ≠ .transport ∧ t.err ≠ .timeout)
    (hbound : t.busyMaxPolls = s.busyMaxPolls)
    (hstate : t.seqState = s.seqState ∧ (t.cfgValid = s.cfgValid ∨ t.cfgValid = true) ∨
      t.seqState = .drawing ∧ t.cfgValid = true) : t.SequencerOk := by
  obtain ⟨hnil, hmem⟩ := h.atRest hr
  refine rest (hready.trans hr) (hseq.trans hnil) ?_ (by omega) (fun he => absurd he (not_or.2 herr)) (fun hc => ?_)
    (hbound ▸ h.bound)
  · rcases hstate with ⟨e, -⟩ | ⟨e, -⟩ <;> rw [e]
    · exact hmem
    · decide
  · rcases hstate with ⟨e, hcfg | hcfg⟩ | ⟨-, hcfg⟩ <;> rw [hcfg] at hc
    · exact e.trans (h.unconfigured hc).2
    · cases hc
    · cases hc

/-- A configured block's request ends in an error (60_exceptions.md R255). -/
theorem fail (hcfg : t.cfgValid = true) (hcount : t.stepCount ≤ 23) (hbound : t.busyMaxPolls ≠ some 0) (e : ErrCode) :
    (t.fail e).SequencerOk := by
  refine rest rfl rfl ?_ hcount (fun _ => rfl) (fun hc => ?_) hbound
  · show SeqState.indeterminate ∈ restStates
    decide
  · rw [State.fail_cfgValid, hcfg] at hc
    cases hc

/-- An operation has succeeded (41_sequencer.md R167). -/
theorem advance (h : s.SequencerOk) (hr : s.ready = false) : s.advance.SequencerOk := by
  obtain ⟨hlt, hruns, herr, hrunning⟩ := h.inProgress hr
  have hcfg := h.configured_of_busy hr
  have hlen := h.short.1
  by_cases hmore : s.stepCount + 1 < s.seq.length
  · rw [State.advance_more hmore]
    exact {
      atRest := fun hrest => by rw [hr] at hrest; cases hrest
      inProgress := fun _ => ⟨hmore, hruns, herr, hrunning.advance⟩
      short := ⟨hlen, Nat.le_of_lt (Nat.lt_of_lt_of_le hmore hlen)⟩
      failed := fun he => by rw [herr] at he; simp at he
      unconfigured := fun hc => by rw [hcfg] at hc; cases hc
      bound := h.bound
      polling := fun _ hwait n hn => by
        rw [if_pos hwait]
        exact Nat.pos_of_ne_zero fun h0 => h.bound (h0 ▸ hn) }
  · rw [State.advance_last hmore]
    refine rest rfl rfl hrunning.final_mem (Nat.le_trans hlt hlen) (fun he => ?_) (fun hc => ?_) h.bound
    · rw [herr] at he; simp at he
    · rw [hcfg] at hc; cases hc

theorem perform (h : s.SequencerOk) (hr : s.ready = false) (op : TransportOp) : (s.perform op).SequencerOk := by
  have hcfg := h.configured_of_busy hr
  have hcount := h.short.2
  have hbound := h.bound
  rcases s.perform_cases op with ⟨-, e⟩ | ⟨k, d, -, e⟩ <;> rw [e]
  · exact advance (h.congr (by constructor <;> simp)) (by simp [hr])
  · exact fail (by simp [hcfg]) (by simp [hcount]) (by simp [hbound]) _

/-- A busy poll under the bound leaves the count under it (41_sequencer.md R163). -/
theorem countPoll (h : s.SequencerOk) (hr : s.ready = false) (hk : s.seq[s.stepCount]? = some .busyWait)
    (hb : s.busyMaxPolls ≠ some (s.polls + 1)) : ({ s with polls := s.polls + 1 } : State).SequencerOk :=
  { h with
    polling := fun _ _ n hn => Nat.lt_of_le_of_ne (h.polling hr hk n hn) fun e => hb (hn.trans (congrArg some e.symm)) }

theorem pollBusy (h : s.SequencerOk) (hr : s.ready = false) (hk : s.seq[s.stepCount]? = some .busyWait) :
    s.pollBusy.SequencerOk := by
  have hcfg := h.configured_of_busy hr
  have hcount := h.short.2
  have hbound := h.bound
  rcases s.pollBusy_cases with e | ⟨-, e⟩ | ⟨hb, e⟩ | e <;> rw [e]
  · exact fail (by simp [hcfg]) (by simp [hcount]) (by simp [hbound]) _
  · exact fail (by simp [hcfg]) (by simp [hcount]) (by simp [hbound]) _
  · exact (h.countPoll hr hk hb).congr (by constructor <;> simp)
  · exact advance (h.congr (by constructor <;> simp)) (by simp [hr])

end State.SequencerOk

/-! #### Requests that start -/

/-- A valid panel has at least one byte to send (41_sequencer.md R171). -/
theorem State.fbLen_pos (hc : s.cfgValid = true) (hdims : dimsInRange s.rows s.cols) : 0 < s.fbLen := by
  obtain ⟨hrows, -, hcols, -, -⟩ := hdims
  rw [State.fbLen_configured hc]
  exact Nat.div_pos (Nat.mul_le_mul hrows hcols) (by decide)

theorem State.Good.fbLen_pos (h : s.Good) (hchip : s.chipReady = true) : 0 < s.fbLen := by
  have hc := h.sequencer.configured_of_chipReady hchip
  exact State.fbLen_pos hc (h.storage.dimsInRange hc)

theorem resetOperations_length (rows cols : BitVec 16) : (resetSeq ++ initSeq rows cols).length = 23 := rfl

/-- Six operations for each plane that UPDATE streams, and four after them (41_sequencer.md R178). -/
theorem updateSeq_length (bw red : Bool) (mode : UpdateMode) (h : 0 < s.fbLen) :
    (updateSeq bw red mode s).length = 4 + 6 * (bw.toNat + red.toNat) := by
  have hplane (p : Plane) (b : Byte) : (frame b (s.planeBytes p)).length = 2 := by
    rw [frame_length, if_neg (by simp [State.planeBytes, Nat.ne_of_gt h])]
  rw [updateSeq_eq]
  cases bw <;> cases red <;> simp [hplane]

/-- Every SEQ a good state starts can be performed, does not begin with a busy-wait, and has at most 23 operations
(41_sequencer.md R178). -/
theorem Starts.runnable (hs : Starts s op seq final entry) (h : s.Good) :
    Runnable seq ∧ 0 < seq.length ∧ seq.length ≤ 23 ∧ seq[0]? ≠ some .busyWait := by
  cases hs with
  | reset hc =>
    rw [resetOperations_length]
    exact ⟨.resetOperations _ _, by decide, by decide, nofun⟩
  | update bw red mode hchip =>
    have hpos := h.fbLen_pos hchip
    refine ⟨.updateOperations bw red mode hpos, ?_, ?_, ?_⟩
    · rw [updateSeq_length bw red mode hpos]; omega
    · rw [updateSeq_length bw red mode hpos]
      cases bw <;> cases red <;> decide
    · cases bw <;> cases red <;> nofun
  | cmdFrame b data hchip hd =>
    refine ⟨.frame hd, ?_, ?_, nofun⟩ <;> rw [frame_length] <;> split_ifs <;> decide
  | cmdSwReset hchip => exact ⟨.append (.frame rfl) .busyWait, by decide, by decide, nofun⟩
  | cmdRefresh hchip => exact ⟨.append (.frame rfl) .busyWait, by decide, by decide, nofun⟩

/-- A request starts in the STATE of its kind (41_sequencer.md R179, R182; 40_command_layer.md R121). -/
theorem Starts.runningState (hs : Starts s op seq final entry) :
    ((s.accept op).start seq final entry).runningState := by
  cases hs with
  | reset => exact .inl ⟨rfl, rfl, rfl⟩
  | update => exact .inr (.inl ⟨rfl, rfl, rfl⟩)
  | cmdFrame b data hchip => exact .inr (.inr ⟨rfl, hchip, .inr rfl⟩)
  | cmdSwReset hchip => exact .inr (.inr ⟨rfl, hchip, .inl rfl⟩)
  | cmdRefresh hchip => exact .inr (.inr ⟨rfl, hchip, .inr rfl⟩)

/-- Only a configured block starts a request (60_exceptions.md R252). -/
theorem Starts.configured (hs : Starts s op seq final entry) (h : s.SequencerOk) : s.cfgValid = true := by
  cases hs with
  | reset hc => exact hc
  | update _ _ _ hchip => exact h.configured_of_chipReady hchip
  | cmdFrame _ _ hchip => exact h.configured_of_chipReady hchip
  | cmdSwReset hchip => exact h.configured_of_chipReady hchip
  | cmdRefresh hchip => exact h.configured_of_chipReady hchip

theorem Starts.sequencerOk (hs : Starts s op seq final entry) (h : s.Good) :
    ((s.accept op).start seq final entry).SequencerOk := by
  obtain ⟨hrun, hpos, hlen, hwait⟩ := hs.runnable h
  have hcfg := hs.configured h.sequencer
  exact {
    atRest := nofun
    inProgress := fun _ => ⟨hpos, hrun.runs, rfl, hs.runningState⟩
    short := ⟨hlen, Nat.zero_le 23⟩
    failed := nofun
    unconfigured := fun hc => by rw [State.start_cfgValid, State.accept_cfgValid, hcfg] at hc; cases hc
    bound := h.sequencer.bound
    polling := fun _ hk => absurd hk hwait }

/-! #### A good state stays good and goes on -/

/-- SET_PIXEL and CLEAR leave STATE as it is, or DRAWING (41_sequencer.md R191). -/
theorem State.enterDrawing_seqState_cases (s : State) :
    s.enterDrawing.seqState = s.seqState ∨ s.enterDrawing.seqState = .drawing := by
  unfold State.enterDrawing
  split
  · exact .inr rfl
  · exact .inl rfl

/-- Drawing keeps the sequencer at rest. -/
theorem State.SequencerOk.drawn (h : s.SequencerOk) (hr : s.ready = true) (hc : s.cfgValid = true) (op : BitVec 4)
    (p : Plane) (m : Memory) : ((s.accept op).setPlane p m).enterDrawing.SequencerOk := by
  refine h.completed hr (by simp) (by simp) (by simp) (by simp) (by simp) ?_
  rcases ((s.accept op).setPlane p m).enterDrawing_seqState_cases with e | e
  · exact .inl ⟨e.trans (by simp), .inl (by simp)⟩
  · exact .inr ⟨e, by simp [hc]⟩

/-- A request accepted at rest keeps the sequencer as every run leaves it. -/
theorem State.Good.request {i : Instr} (h : s.Good) (hr : s.ready = true) (hn : RequestNext s i t) :
    t.SequencerOk := by
  have hok := h.sequencer
  cases hn with
  | started i op seq final entry hs => exact hs.sequencerOk h
  | rejected i op e he =>
    refine hok.completed hr rfl rfl rfl ?_ rfl (.inl ⟨rfl, .inl rfl⟩)
    rcases he with rfl | rfl | rfl <;> exact ⟨nofun, nofun⟩
  | configured => exact hok.completed hr rfl rfl rfl ⟨nofun, nofun⟩ rfl (.inl ⟨rfl, .inr rfl⟩)
  | mapped => exact hok.completed hr rfl rfl rfl ⟨nofun, nofun⟩ rfl (.inl ⟨rfl, .inl rfl⟩)
  | peeked => exact hok.completed hr rfl rfl rfl ⟨nofun, nofun⟩ rfl (.inl ⟨rfl, .inl rfl⟩)
  | pixelSet p on x y hc => exact hok.drawn hr hc 0x4 p _
  | cleared p dark hc => exact hok.drawn hr hc 0x5 p _

/-- Taking a word off the queue leaves a good state good. -/
theorem State.Good.withRequests (h : s.Good) (rest : List RequestWord) : ({ s with requests := rest } : State).Good :=
  ⟨h.storage.congr (by constructor <;> rfl), h.sequencer.congr (by constructor <;> rfl)⟩

theorem State.Good.stepSequencer (h : s.Good) (hstep : step s = .next t) : t.SequencerOk := by
  have hok := h.sequencer
  cases step_cases hstep with
  | idle => exact hok
  | illegal w rest e hr => exact hok.completed hr rfl rfl rfl ⟨nofun, nofun⟩ rfl (.inl ⟨rfl, .inl rfl⟩)
  | request w rest i t hr hq hd ht hn => exact (h.withRequests rest).request hr hn
  | poll hr hk => exact hok.pollBusy hr hk
  | pulse ms hr => exact hok.perform hr _
  | framed b data i hr => exact hok.perform hr _

/-- Settles O46: storage by its own invariant; the sequencer by what acceptance, an operation and a poll do to it. -/
theorem stepKeepsGoodState : Obligations.StepKeepsGoodState :=
  fun _ _ h hstep => ⟨h.storage.step hstep, h.stepSequencer hstep⟩

/-- Settles O47: every field is the reset record's. -/
theorem blockResetIsGood : Obligations.BlockResetIsGood := by
  refine ⟨⟨?_, ?_⟩, nofun⟩
  · constructor <;> decide
  · exact .rest rfl rfl (by decide) (by decide) nofun (fun _ => rfl) nofun

/-- A request never stops a good state: the one fault needs an index outside the plane (42_mapping.md R207). -/
theorem State.Good.request_goesOn {i : Instr} {w : RequestWord} (h : s.Good) (hi : encode i = .request w) :
    ∃ t, exec i s = .next t := by
  rcases exec_request hi s with ⟨t, ht, -⟩ | ⟨-, p, on, x, y, -, hc, hin, hout⟩
  · exact ⟨t, ht⟩
  · exact absurd (State.mapAt_inside hc (h.storage.dimsInRange hc) hin).1 hout

/-- Settles O48: at rest every word is rejected or is a request that goes on; in progress the operation due can be
performed. -/
theorem goodStateGoesOn : Obligations.GoodStateGoesOn := by
  intro s h
  cases hr : s.ready with
  | true =>
    cases hq : s.requests with
    | nil => exact ⟨s, step_no_request hr hq⟩
    | cons w rest =>
      cases hd : decodeRequest w with
      | error e => exact ⟨_, step_of_illegal hr hq hd⟩
      | ok i =>
        rw [step_of_request hr hq hd]
        exact (h.withRequests rest).request_goesOn (encode_eq_of_decodeRequest hd)
  | false =>
    obtain ⟨hlt, hruns, -, -⟩ := h.sequencer.inProgress hr
    have hk := List.getElem?_eq_getElem hlt
    by_cases hwait : s.seq[s.stepCount] = .busyWait
    · exact ⟨_, step_poll hr (hk.trans (congrArg some hwait))⟩
    · exact ⟨_, step_perform hr hk (hruns _ hlt) hwait⟩

end SequencerInvariant

end Sys2Proof.Machine

/-! ### What requests start, raise and read -/

namespace Sys2Proof.Machine

section RequestOperations

open Sys2Proof.Claims

variable {s t : State} {i : Instr} {w : RequestWord}

/-- The next state of a request is one that requests can have. -/
theorem requestNext_of_encode (hi : encode i = .request w) (h : exec i s = .next t) : RequestNext s i t :=
  requestNext_of_exec (decodeRequest_encode hi) h

/-- A request either starts its operations or leaves SEQ and READY as they are (41_sequencer.md R166). -/
theorem RequestNext.starts_or_keeps (h : RequestNext s i t) :
    t.ready = false ∨ (t.ready = s.ready ∧ t.seq = s.seq) := by
  cases h with
  | started => exact .inl rfl
  | rejected => exact .inr ⟨rfl, rfl⟩
  | configured => exact .inr ⟨rfl, rfl⟩
  | mapped => exact .inr ⟨rfl, rfl⟩
  | peeked => exact .inr ⟨rfl, rfl⟩
  | pixelSet => exact .inr (by simp)
  | cleared => exact .inr (by simp)

/-- The kinds of request: the 17 CMD forms, which run alike, and the seven others (30_encoding.md R91). -/
inductive RequestKind : Instr → Prop where
  | cmd (i : Instr) (h : isCmd i = true) : RequestKind i
  | configure (rows cols : BitVec 16) (rot : Rotation) (auto : Bool) : RequestKind (.configure rows cols rot auto)
  | reset : RequestKind .reset
  | update (bw red : Bool) (mode : UpdateMode) : RequestKind (.update bw red mode)
  | setPixel (p : Plane) (on : Bool) (x y : BitVec 16) : RequestKind (.setPixel p on x y)
  | clear (p : Plane) (dark : Bool) : RequestKind (.clear p dark)
  | map (x y : BitVec 16) : RequestKind (.map x y)
  | peek (p : Plane) (index : BitVec 17) : RequestKind (.peek p index)

theorem requestKind_of_encode (hi : encode i = .request w) : RequestKind i := by
  cases i with
  | configure => exact .configure ..
  | reset => exact .reset
  | update => exact .update ..
  | setPixel => exact .setPixel ..
  | clear => exact .clear ..
  | map => exact .map ..
  | peek => exact .peek ..
  | _ => first | exact .cmd _ rfl | cases hi

/-! #### The number of operations -/

theorem cmdOperations_length (h : isCmd i = true) : (cmdOperations i).length = operationCount i := by
  cases i <;> first | rfl | cases h

/-- A CMD form has a command byte and its data, or a busy-wait after it; cmd.nop has the byte alone. -/
theorem operationCount_of_isCmd (h : isCmd i = true) : operationCount i = 1 ∨ operationCount i = 2 := by
  cases i <;> first | exact .inr rfl | exact .inl rfl | cases h

theorem State.runCmd_busy {seq : List TransportOp} {final : SeqState} (hr : s.ready = true)
    (h : (s.runCmd seq final).ready = false) : (s.runCmd seq final).seq = seq := by
  unfold State.runCmd at h ⊢
  split_ifs at h ⊢
  · rfl
  · simp [hr] at h

/-- A request of no operation leaves READY as it is. -/
theorem ready_of_immediate (hi : encode i = .request w) (h0 : operationCount i = 0) (h : exec i s = .next t) :
    t.ready = s.ready := by
  cases requestKind_of_encode hi with
  | cmd i hcmd =>
    rcases operationCount_of_isCmd hcmd with e | e <;> omega
  | reset => cases h0
  | update bw red mode => exact absurd h0 (by simp [operationCount])
  | configure => simp only [exec, execConfigure] at h; split_ifs at h <;> cases h <;> rfl
  | map => simp only [exec, execMap, State.whenConfigured] at h; split_ifs at h <;> cases h <;> rfl
  | peek => simp only [exec, execPeek, State.whenConfigured] at h; split_ifs at h <;> cases h <;> rfl
  | setPixel =>
    simp only [exec, execSetPixel, State.whenConfigured] at h
    split_ifs at h <;> cases h <;> simp
  | clear =>
    simp only [exec, execClear, State.whenConfigured] at h
    split_ifs at h <;> cases h <;> simp

/-- A request that starts has its number of operations (41_sequencer.md R178). -/
theorem seq_length_of_busy (hs : s.Good) (hr : s.ready = true) (hi : encode i = .request w) (h : exec i s = .next t)
    (ht : t.ready = false) : t.seq.length = operationCount i ∧ 1 ≤ operationCount i ∧ operationCount i ≤ 23 := by
  by_cases h0 : operationCount i = 0
  · rw [ready_of_immediate hi h0 h, hr] at ht
    cases ht
  cases requestKind_of_encode hi with
  | cmd i hcmd =>
    obtain rfl := Host.Outcome.next.inj ((exec_cmd hcmd).symm.trans h)
    rw [State.runCmd_busy (s := s.accept 0x7) hr ht, cmdOperations_length hcmd]
    rcases operationCount_of_isCmd hcmd with e | e <;> simp [e]
  | reset =>
    cases hc : s.cfgValid with
    | true =>
      obtain rfl := Host.Outcome.next.inj ((exec_reset_configured hc).symm.trans h)
      exact ⟨rfl, by decide, by decide⟩
    | false =>
      obtain rfl := Host.Outcome.next.inj ((exec_reset_unconfigured hc).symm.trans h)
      simp [hr] at ht
  | update bw red mode =>
    cases hchip : s.chipReady with
    | true =>
      obtain rfl := Host.Outcome.next.inj ((exec_update_ready bw red mode hchip).symm.trans h)
      have hb := Bool.toNat_le bw
      have hr := Bool.toNat_le red
      refine ⟨updateSeq_length bw red mode (hs.fbLen_pos hchip), ?_⟩
      simp only [operationCount]
      omega
    | false =>
      obtain rfl := Host.Outcome.next.inj ((exec_update_refused bw red mode hchip).symm.trans h)
      simp [hr] at ht
  | configure | setPixel | clear | map | peek => exact absurd rfl h0

/-- Settles O14: RESET and UPDATE by the length of their SEQ, the CMD forms by that of their frames; any other request
leaves READY and the empty SEQ of a good state at rest. -/
theorem requestOperationCounts : Obligations.RequestOperationCounts := by
  intro s t i w hs hr hi h
  refine ⟨seq_length_of_busy hs hr hi h, fun ht => ?_, fun h0 => (ready_of_immediate hi h0 h).trans hr⟩
  rcases (requestNext_of_encode hi h).starts_or_keeps with hbusy | ⟨-, hseq⟩
  · rw [hbusy] at ht
    cases ht
  · exact hseq.trans (hs.sequencer.atRest hr).1

/-! #### The errors -/

theorem State.runCmd_err (s : State) (seq : List TransportOp) (final : SeqState) :
    (s.runCmd seq final).err = s.err ∨ (s.runCmd seq final).err = .state := by
  unfold State.runCmd
  split_ifs
  · exact .inl rfl
  · exact .inr rfl

/-- Every request can raise STATE (60_exceptions.md R251). -/
theorem state_mem_acceptanceErrors (i : Instr) : ErrCode.state ∈ acceptanceErrors i := by
  unfold acceptanceErrors
  split <;> decide

/-- The errors of checks 2 and 3, request by request (60_exceptions.md R251, R252). -/
theorem exec_err (hi : encode i = .request w) (h : exec i s = .next t) :
    t.err = .none ∨ t.err ∈ acceptanceErrors i := by
  cases requestKind_of_encode hi with
  | cmd i hcmd =>
    obtain rfl := Host.Outcome.next.inj ((exec_cmd hcmd).symm.trans h)
    exact ((s.accept 0x7).runCmd_err _ _).imp id fun e => by rw [e]; exact state_mem_acceptanceErrors i
  | configure => simp only [exec, execConfigure] at h; split_ifs at h <;> cases h <;> simp [acceptanceErrors]
  | update => simp only [exec, execUpdate] at h; split_ifs at h <;> cases h <;> simp [acceptanceErrors]
  | reset =>
    simp only [exec, execReset, State.whenConfigured] at h
    split_ifs at h <;> cases h <;> simp [acceptanceErrors]
  | setPixel =>
    simp only [exec, execSetPixel, State.whenConfigured] at h
    split_ifs at h <;> cases h <;> simp [acceptanceErrors]
  | clear =>
    simp only [exec, execClear, State.whenConfigured] at h
    split_ifs at h <;> cases h <;> simp [acceptanceErrors]
  | map =>
    simp only [exec, execMap, State.whenConfigured] at h
    split_ifs at h <;> cases h <;> simp [acceptanceErrors]
  | peek =>
    simp only [exec, execPeek, State.whenConfigured] at h
    split_ifs at h <;> cases h <;> simp [acceptanceErrors]

theorem perform_err (s : State) (op : TransportOp) : (s.perform op).err = s.err ∨ (s.perform op).err = .transport := by
  rcases s.perform_cases op with ⟨-, e⟩ | ⟨k, d, -, e⟩ <;> rw [e]
  · exact .inl (by simp)
  · exact .inr rfl

/-- A poll raises TRANSPORT, or TIMEOUT under a bound (41_sequencer.md R163). -/
theorem pollBusy_err (s : State) :
    s.pollBusy.err = s.err ∨ s.pollBusy.err = .transport ∨ (s.pollBusy.err = .timeout ∧ s.busyMaxPolls ≠ none) := by
  rcases s.pollBusy_cases with e | ⟨hb, e⟩ | ⟨-, e⟩ | e <;> rw [e]
  · exact .inr (.inl rfl)
  · exact .inr (.inr ⟨rfl, by simp [hb]⟩)
  · exact .inl (by simp)
  · exact .inl (by simp)

/-- Settles O57: at acceptance by the checks of each request, in progress by what an operation and a poll raise. -/
theorem errorsEachRequestRaises : Obligations.ErrorsEachRequestRaises := by
  refine ⟨fun i w s t hi h => exec_err hi h, fun s t hr h hne => ?_⟩
  rcases step_performs h hr with ⟨op, -, rfl⟩ | ⟨hk, rfl⟩
  · exact .inl ((perform_err s op).resolve_left hne)
  · exact ((pollBusy_err s).resolve_left hne).imp id fun ⟨he, hb⟩ => ⟨he, hk, hb⟩

end RequestOperations

/-! #### AUTO_UPDATE -/

section AutoUpdate

open Sys2Proof.Claims

variable {s t : State} {i : Instr}

/-- The state with another AUTO_UPDATE. -/
def State.withAuto (b : Bool) (s : State) : State := { s with autoUpdate := b }

/-! Every shared operation takes AUTO_UPDATE through unread. -/

theorem State.draw_withAuto (b : Bool) (s : State) (p : Plane) (m : Memory) :
    ((s.withAuto b).setPlane p m).enterDrawing = (s.setPlane p m).enterDrawing.withAuto b := by
  have hplane : (s.withAuto b).setPlane p m = (s.setPlane p m).withAuto b := by cases p <;> rfl
  have hstate : ((s.setPlane p m).withAuto b).seqState = (s.setPlane p m).seqState := rfl
  rw [hplane]
  unfold State.enterDrawing
  rw [hstate]
  split_ifs <;> rfl

/-- A request that needs a configuration takes AUTO_UPDATE through if what it does with one does. -/
theorem State.whenConfigured_withAuto {k : State → Result} (b : Bool) (h : s.whenConfigured k = .next t)
    (hk : k s = .next t → k (s.withAuto b) = .next (t.withAuto b)) :
    (s.withAuto b).whenConfigured k = .next (t.withAuto b) := by
  cases hc : s.cfgValid with
  | true =>
    rw [State.whenConfigured_true hc] at h
    exact (State.whenConfigured_true (s := s.withAuto b) hc).trans (hk h)
  | false =>
    rw [State.whenConfigured_false hc] at h
    obtain rfl := Host.Outcome.next.inj h
    exact State.whenConfigured_false (s := s.withAuto b) hc

theorem State.runCmd_withAuto (b : Bool) (s : State) (seq : List TransportOp) (final : SeqState) :
    (s.withAuto b).runCmd seq final = (s.runCmd seq final).withAuto b := by
  have hchip : (s.withAuto b).chipReady = s.chipReady := rfl
  unfold State.runCmd
  rw [hchip]
  split_ifs <;> rfl

/-- The state with another AUTO_UPDATE and another draw counter, which no operation reads once its answer is there. -/
def State.withUnread (b : Bool) (n : Nat) (s : State) : State := { s with autoUpdate := b, draws := n }

theorem State.withAuto_eq (b : Bool) (s : State) : s.withAuto b = s.withUnread b s.draws := rfl

theorem State.advance_withUnread (b : Bool) (n : Nat) (s : State) :
    (s.withUnread b n).advance = s.advance.withUnread b n := by
  by_cases hmore : s.stepCount + 1 < s.seq.length
  · rw [State.advance_more hmore]
    exact State.advance_more (s := s.withUnread b n) hmore
  · rw [State.advance_last hmore]
    exact State.advance_last (s := s.withUnread b n) hmore

theorem State.emitFailed_withUnread (b : Bool) (n : Nat) (s : State) (op : TransportOp) (k : Nat) (d : Bool) :
    (s.withUnread b n).emitFailed op k d = (s.emitFailed op k d).withUnread b n := by
  unfold State.emitFailed
  dsimp only
  split <;> rfl

/-- What an operation does with its answer (41_sequencer.md R160-R162). -/
def State.answered (op : TransportOp) (a : Config.OpAnswer) (s : State) : State :=
  match a with
  | .ok => (s.emitAll op.events).advance
  | .err emitted dcLevel => (s.emitFailed op emitted dcLevel).fail .transport

theorem State.perform_eq_answered (s : State) (op : TransportOp) :
    s.perform op = s.takeOpAnswer.2.answered op s.takeOpAnswer.1 := by
  unfold State.perform
  obtain ⟨a, u⟩ := s.takeOpAnswer
  cases a <;> rfl

theorem State.answered_withUnread (b : Bool) (n : Nat) (s : State) (op : TransportOp) (a : Config.OpAnswer) :
    (s.withUnread b n).answered op a = (s.answered op a).withUnread b n := by
  cases a with
  | ok => exact State.advance_withUnread b n (s.emitAll op.events)
  | err k d => exact congrArg (State.fail .transport) (s.emitFailed_withUnread b n op k d)

theorem State.answered_draws (s : State) (op : TransportOp) (a : Config.OpAnswer) :
    (s.answered op a).draws = s.draws := by
  cases a <;> simp [State.answered]

theorem State.answered_autoUpdate (s : State) (op : TransportOp) (a : Config.OpAnswer) :
    (s.answered op a).autoUpdate = s.autoUpdate := by
  cases a <;> simp [State.answered]

/-- What a busy-wait does with the answer to a poll (41_sequencer.md R163). -/
def State.polled (a : Config.PollAnswer) (s : State) : State :=
  match a with
  | .err => s.fail .transport
  | .level pin =>
    if pin = Config.busyActive then
      if s.busyMaxPolls = some (s.polls + 1) then ({ s with polls := s.polls + 1 } : State).fail .timeout
      else { s with polls := s.polls + 1 }
    else (s.emitAll TransportOp.busyWait.events).advance

theorem State.pollBusy_eq_polled (s : State) : s.pollBusy = s.takePollAnswer.2.polled s.takePollAnswer.1 := by
  unfold State.pollBusy
  obtain ⟨a, u⟩ := s.takePollAnswer
  cases a <;> rfl

theorem State.polled_withUnread (b : Bool) (n : Nat) (s : State) (a : Config.PollAnswer) :
    (s.withUnread b n).polled a = (s.polled a).withUnread b n := by
  cases a with
  | err => rfl
  | level pin =>
    have hbound : (s.withUnread b n).busyMaxPolls = s.busyMaxPolls := rfl
    have hpolls : (s.withUnread b n).polls = s.polls := rfl
    simp only [State.polled, hbound, hpolls]
    split_ifs
    · rfl
    · rfl
    · exact State.advance_withUnread b n (s.emitAll TransportOp.busyWait.events)

theorem State.polled_draws (s : State) (a : Config.PollAnswer) : (s.polled a).draws = s.draws := by
  cases a with
  | err => rfl
  | level pin => unfold State.polled; dsimp only; split_ifs <;> simp

theorem State.polled_autoUpdate (s : State) (a : Config.PollAnswer) : (s.polled a).autoUpdate = s.autoUpdate := by
  cases a with
  | err => rfl
  | level pin => unfold State.polled; dsimp only; split_ifs <;> simp

theorem State.takeOpAnswer_withAuto (b : Bool) (s : State) :
    (s.withAuto b).takeOpAnswer = (s.takeOpAnswer.1, s.takeOpAnswer.2.withAuto b) := by
  have hscript : (s.withAuto b).opScript = s.opScript := rfl
  unfold State.takeOpAnswer
  rw [hscript]
  cases s.opScript <;> rfl

theorem State.takePollAnswer_withAuto (b : Bool) (s : State) :
    (s.withAuto b).takePollAnswer = (s.takePollAnswer.1, s.takePollAnswer.2.withAuto b) := by
  have hscript : (s.withAuto b).pollScript = s.pollScript := rfl
  unfold State.takePollAnswer
  rw [hscript]
  cases s.pollScript <;> rfl

theorem State.perform_withAuto (b : Bool) (s : State) (op : TransportOp) :
    (s.withAuto b).perform op = (s.perform op).withAuto b := by
  rw [State.perform_eq_answered, State.perform_eq_answered, State.takeOpAnswer_withAuto, State.withAuto_eq,
    State.withAuto_eq, State.answered_withUnread, State.answered_draws]

theorem State.pollBusy_withAuto (b : Bool) (s : State) : (s.withAuto b).pollBusy = s.pollBusy.withAuto b := by
  rw [State.pollBusy_eq_polled, State.pollBusy_eq_polled, State.takePollAnswer_withAuto, State.withAuto_eq,
    State.withAuto_eq, State.polled_withUnread, State.polled_draws]

/-- A request other than CONFIGURE takes AUTO_UPDATE through unread (41_sequencer.md R192). -/
theorem exec_withAuto {w : RequestWord} (b : Bool) (hi : encode i = .request w) (h : exec i s = .next t)
    (hconf : ∀ rows cols rot auto, i ≠ .configure rows cols rot auto) :
    exec i (s.withAuto b) = .next (t.withAuto b) := by
  cases requestKind_of_encode hi with
  | configure rows cols rot auto => exact absurd rfl (hconf rows cols rot auto)
  | cmd i hcmd =>
    obtain rfl := Host.Outcome.next.inj ((exec_cmd hcmd).symm.trans h)
    exact (exec_cmd hcmd).trans (congrArg _ (State.runCmd_withAuto b (s.accept 0x7) _ _))
  | update bw red mode =>
    cases hchip : s.chipReady with
    | true =>
      obtain rfl := Host.Outcome.next.inj ((exec_update_ready bw red mode hchip).symm.trans h)
      exact exec_update_ready (s := s.withAuto b) bw red mode hchip
    | false =>
      obtain rfl := Host.Outcome.next.inj ((exec_update_refused bw red mode hchip).symm.trans h)
      exact exec_update_refused (s := s.withAuto b) bw red mode hchip
  | reset =>
    simp only [exec, execReset] at h ⊢
    refine State.whenConfigured_withAuto (s := s.accept 0x2) b h fun h => ?_
    obtain rfl := Host.Outcome.next.inj h
    rfl
  | clear p dark =>
    simp only [exec, execClear] at h ⊢
    refine State.whenConfigured_withAuto (s := s.accept 0x5) b h fun h => ?_
    obtain rfl := Host.Outcome.next.inj h
    exact congrArg _ (State.draw_withAuto b (s.accept 0x5) p _)
  | map x y =>
    simp only [exec, execMap] at h ⊢
    refine State.whenConfigured_withAuto (s := s.accept 0x6) b h fun h => ?_
    split_ifs at h with hin <;> obtain rfl := Host.Outcome.next.inj h
    · exact if_pos hin
    · exact if_neg hin
  | peek p index =>
    simp only [exec, execPeek] at h ⊢
    refine State.whenConfigured_withAuto (s := s.accept 0x8) b h fun h => ?_
    split_ifs at h with hlt <;> obtain rfl := Host.Outcome.next.inj h
    · exact if_pos hlt
    · exact if_neg hlt
  | setPixel p on x y =>
    simp only [exec, execSetPixel] at h ⊢
    refine State.whenConfigured_withAuto (s := s.accept 0x4) b h fun h => ?_
    split_ifs at h with hin hlt <;> obtain rfl := Host.Outcome.next.inj h
    · exact (if_pos hin).trans ((if_pos hlt).trans (congrArg _ (State.draw_withAuto b (s.accept 0x4) p _)))
    · exact if_neg hin

/-- CONFIGURE writes AUTO_UPDATE or takes it through, and does not read it (41_sequencer.md R170, R192). -/
theorem exec_configure_withAuto {rows cols : BitVec 16} {rot : Rotation} {auto : Bool} (b : Bool)
    (h : exec (.configure rows cols rot auto) s = .next t) :
    ∃ u, exec (.configure rows cols rot auto) (s.withAuto b) = .next u ∧ u.withAuto t.autoUpdate = t := by
  cases hc : s.cfgValid with
  | true =>
    obtain rfl := Host.Outcome.next.inj ((exec_configure_latched rot auto hc).symm.trans h)
    exact ⟨_, exec_configure_latched (s := s.withAuto b) rot auto hc, rfl⟩
  | false =>
    rw [exec_configure_unlatched rot auto hc] at h
    rw [exec_configure_unlatched (s := s.withAuto b) rot auto hc]
    split_ifs at h ⊢ <;> obtain rfl := Host.Outcome.next.inj h <;> exact ⟨_, rfl, rfl⟩

theorem opRuns_resetPulse {seq : List TransportOp} {k ms : Nat} (h : seq[k]? = some (.resetPulse ms)) :
    opRuns seq k = true := by
  simp [opRuns, h]

/-- Every step answers the same, up to AUTO_UPDATE. -/
theorem step_withAuto (b : Bool) (h : step s = .next t) :
    ∃ u, step (s.withAuto b) = .next u ∧ u.withAuto t.autoUpdate = t := by
  cases step_cases h with
  | idle hr hq => exact ⟨_, step_no_request (s := s.withAuto b) hr hq, rfl⟩
  | illegal w rest e hr hq hd => exact ⟨_, step_of_illegal (s := s.withAuto b) hr hq hd, rfl⟩
  | request w rest i t hr hq hd ht =>
    rw [step_of_request (s := s.withAuto b) hr hq hd]
    by_cases hconf : ∃ rows cols rot auto, i = .configure rows cols rot auto
    · obtain ⟨rows, cols, rot, auto, rfl⟩ := hconf
      exact exec_configure_withAuto b ht
    · simp only [not_exists] at hconf
      exact ⟨_, exec_withAuto b (encode_eq_of_decodeRequest hd) ht hconf, rfl⟩
  | poll hr hk => exact ⟨_, step_poll (s := s.withAuto b) hr hk, by rw [State.pollBusy_withAuto]; rfl⟩
  | pulse ms hr hk =>
    refine ⟨_, step_perform (s := s.withAuto b) hr hk (opRuns_resetPulse hk) nofun, ?_⟩
    rw [State.perform_withAuto]
    rfl
  | framed op data i hr hf hd hk =>
    refine ⟨_, (step_of_frame (s := s.withAuto b) hr hf hd).trans (exec_of_decodeFrame hd _), ?_⟩
    exact (congrArg (State.withAuto _) (State.perform_withAuto b s (s.frameOp op data))).trans rfl

/-- Settles O60: every step answers the same, up to AUTO_UPDATE. -/
theorem autoUpdateHasNoEffect : Obligations.AutoUpdateHasNoEffect :=
  fun _ _ b h => step_withAuto b h

end AutoUpdate

end Sys2Proof.Machine

/-! ### Transport operations -/

namespace Sys2Proof.Machine

/-! #### Bus frames -/

section FrameMeanings

open Sys2Proof.Claims

variable {i : Instr} {op : Byte} {data : List Byte}

/-- At a SendCmd every bus frame sends its command byte. -/
theorem sendsCommand_of_encode (h : encode i = .frame op data) : sendsCommand i op := by
  intro s b rest hk hscript
  rw [exec_frame h, State.performFrame, State.frameOp_cmd op data hk, State.perform_ok _ hscript]
  rfl

/-- At a SendData every bus frame with data sends its data bytes. -/
theorem sendsData_of_encode (h : encode i = .frame op data) (hd : data ≠ []) : sendsData i data := by
  intro s l rest hk hscript
  rw [exec_frame h, State.performFrame, State.frameOp_data op hd hk, State.perform_ok _ hscript,
    TransportOp.events_sendData, State.emitAll, foldl_dcAfter_data _ hd, foldl_rstAfter_data]

/-- Settles O29: the frames' opcodes are those of their encodings. -/
theorem frameSendsCommandByte : Obligations.FrameSendsCommandByte := by
  refine ⟨fun _ _ => ?_, fun _ => ?_, fun _ _ _ _ _ => ?_, fun _ => ?_, ?_, fun _ => ?_, ?_, fun _ => ?_, fun _ => ?_,
    fun _ _ => ?_, fun _ _ => ?_, fun _ => ?_, fun _ => ?_, fun _ => ?_, fun _ => ?_, fun _ => ?_, fun _ => ?_,
    fun _ => ?_, ?_⟩ <;> exact sendsCommand_of_encode rfl

/-- Settles O30: the frames' data bytes are those of their encodings; only the RAM writes could have none. -/
theorem frameSendsDataBytes : Obligations.FrameSendsDataBytes := by
  refine ⟨fun _ _ => ?_, fun _ => ?_, fun _ _ _ _ _ => ?_, fun _ => ?_, fun _ => ?_, fun _ => ?_, fun _ => ?_,
    fun _ _ => ?_, fun _ _ => ?_, fun _ => ?_, fun _ => ?_, fun _ => ?_, fun _ => ?_,
    fun _ h => sendsData_of_encode rfl h, fun _ h => sendsData_of_encode rfl h, fun _ => ?_⟩ <;>
    exact sendsData_of_encode rfl (List.cons_ne_nil _ _)

end FrameMeanings

/-! #### Transfers -/

section Transfers

open Sys2Proof.Claims

variable {n fuel : Nat} {l : List Byte}

theorem cutTransfers_of_ne_nil (h : l ≠ []) :
    cutTransfers n (fuel + 1) l = l.take n :: cutTransfers n fuel (l.drop n) := by
  cases l with
  | nil => exact absurd rfl h
  | cons b bs => rfl

theorem cutTransfers_nil (n fuel : Nat) : cutTransfers n fuel [] = [] := by cases fuel <;> rfl

/-- Induction over the transfers of a list: the empty list has none, and the others follow the first `n` bytes. -/
theorem cutTransfers_induction {motive : List Byte → List (List Byte) → Prop} (hn : 1 ≤ n) (nil : motive [] [])
    (cons : ∀ l ts, l ≠ [] → (l.length ≤ n → ts = []) → motive (l.drop n) ts → motive l (l.take n :: ts))
    (h : l.length ≤ fuel) : motive l (cutTransfers n fuel l) := by
  induction fuel generalizing l with
  | zero =>
    obtain rfl := List.length_eq_zero_iff.1 (Nat.le_zero.1 h)
    exact nil
  | succ fuel ih =>
    by_cases hl : l = []
    · subst hl
      exact nil
    · rw [cutTransfers_of_ne_nil hl]
      have hdrop : (l.drop n).length ≤ fuel := by rw [List.length_drop]; omega
      refine cons l _ hl (fun hshort => ?_) (ih hdrop)
      rw [List.drop_eq_nil_of_le hshort, cutTransfers_nil]

theorem transfers_induction {motive : List Byte → List (List Byte) → Prop} (hn : 1 ≤ n) (nil : motive [] [])
    (cons : ∀ l ts, l ≠ [] → (l.length ≤ n → ts = []) → motive (l.drop n) ts → motive l (l.take n :: ts)) :
    motive l (transfers n l) :=
  cutTransfers_induction hn nil cons le_rfl

/-- The number of transfers is the quotient rounded up. -/
theorem transfers_length (hn : 1 ≤ n) (l : List Byte) : (transfers n l).length = (l.length + n - 1) / n := by
  refine transfers_induction (motive := fun l ts => ts.length = (l.length + n - 1) / n) hn ?_ fun l ts hl _ ih => ?_
  · exact (Nat.div_eq_of_lt (by simp; omega)).symm
  · have hpos := List.length_pos_iff.2 hl
    rw [List.length_cons, ih, List.length_drop]
    by_cases hlast : l.length ≤ n
    · have hone : l.length + n - 1 = (l.length - 1) + n := by omega
      rw [hone, Nat.add_div_right _ hn, Nat.div_eq_of_lt (by omega), Nat.div_eq_of_lt (by omega)]
    · have hmore : l.length + n - 1 = (l.length - n + n - 1) + n := by omega
      rw [hmore, Nat.add_div_right _ hn]

theorem transfers_size (hn : 1 ≤ n) (l : List Byte) : ∀ t ∈ transfers n l, 1 ≤ t.length ∧ t.length ≤ n := by
  refine transfers_induction (motive := fun _ ts => ∀ t ∈ ts, 1 ≤ t.length ∧ t.length ≤ n) hn nofun
    fun l ts hl _ ih t ht => ?_
  rcases List.mem_cons.1 ht with rfl | ht
  · have hpos := List.length_pos_iff.2 hl
    rw [List.length_take]
    omega
  · exact ih t ht

/-- Every transfer but the last is full. -/
theorem transfers_full (hn : 1 ≤ n) (l : List Byte) : ∀ t ∈ (transfers n l).dropLast, t.length = n := by
  refine transfers_induction (motive := fun _ ts => ∀ t ∈ ts.dropLast, t.length = n) hn nofun
    fun l ts hl hshort ih t ht => ?_
  cases ts with
  | nil => cases ht
  | cons u ts =>
    rcases List.mem_cons.1 ht with rfl | ht
    · have hlong : ¬ l.length ≤ n := fun h => List.cons_ne_nil _ _ (hshort h)
      rw [List.length_take]
      omega
    · exact ih t ht

/-- Settles O31: by induction over the transfers; joined they are the list, so the trace shows no boundary. -/
theorem transfersSplitData : Obligations.TransfersSplitData :=
  fun _ l hn => ⟨transfers_length hn l, transfers_size hn l, transfers_full hn l, transfers_flatten_of_pos hn l,
    TransportOp.events_sendData l⟩

end Transfers

/-! #### One operation -/

section OneOperation

open Sys2Proof.Claims

variable {s t u : State} {op : TransportOp}

theorem sameStore_trans (h : sameStore s t) (h' : sameStore t u) : sameStore s u := by
  obtain ⟨h1, h2, h3, h4, h5, h6, h7, h8, h9, h10, h11, h12, h13⟩ := h
  obtain ⟨k1, k2, k3, k4, k5, k6, k7, k8, k9, k10, k11, k12, k13⟩ := h'
  exact ⟨k1.trans h1, k2.trans h2, k3.trans h3, k4.trans h4, k5.trans h5, k6.trans h6, k7.trans h7, k8.trans h8,
    k9.trans h9, k10.trans h10, k11.trans h11, k12.trans h12, k13.trans h13⟩

theorem sameStore_perform (s : State) (op : TransportOp) : sameStore s (s.perform op) := by
  simp [sameStore]

theorem step_of_due (h : due s op) (hop : op ≠ .busyWait) : step s = .next (s.perform op) := by
  obtain ⟨hr, hk, hruns⟩ := h
  exact step_perform hr hk hruns hop

theorem lt_length_of_due (h : due s op) : s.stepCount < s.seq.length := by
  obtain ⟨-, hk, -⟩ := h
  exact (List.getElem?_eq_some_iff.1 hk).1

/-- A SendData that is due has data (90_conflicts.md C1). -/
theorem ne_sendData_nil_of_due (h : due s op) : op ≠ .sendData [] := by
  rintro rfl
  obtain ⟨-, hk, hruns⟩ := h
  simp [opRuns, frameAt, hk] at hruns

/-! The pins follow the events of an operation (20_memory.md R76, 41_sequencer.md R162). -/

theorem foldl_dcAfter_events (dc : Bool) (op : TransportOp) : op ≠ .sendData [] →
    op.events.foldl dcAfter dc = match op with | .sendCmd _ => false | .sendData _ => true | _ => dc := by
  intro hdata
  cases op with
  | sendCmd b => rfl
  | resetPulse ms => rfl
  | busyWait => rfl
  | sendData l =>
    rw [TransportOp.events_sendData]
    exact foldl_dcAfter_data dc fun h => hdata (congrArg _ h)

theorem foldl_rstAfter_events (rstN : Bool) (op : TransportOp) :
    op.events.foldl rstAfter rstN = match op with | .resetPulse _ => true | _ => rstN := by
  cases op with
  | sendCmd b => rfl
  | resetPulse ms => rfl
  | busyWait => rfl
  | sendData l =>
    rw [TransportOp.events_sendData]
    exact foldl_rstAfter_data rstN l

/-- After the last operation the request completes (41_sequencer.md R167). -/
theorem State.advance_completes (h : s.stepCount + 1 = s.seq.length) :
    s.advance.ready = true ∧ s.advance.seqState = s.finalState := by
  rw [State.advance_last (Nat.not_lt.2 (Nat.le_of_eq h.symm))]
  exact ⟨rfl, rfl⟩

/-- After any other operation the request goes on. -/
theorem State.advance_continues (h : s.stepCount + 1 < s.seq.length) :
    s.advance.ready = s.ready ∧ s.advance.seq = s.seq ∧ s.advance.seqState = s.midState (s.stepCount + 1) := by
  rw [State.advance_more h]
  exact ⟨rfl, rfl, rfl⟩

/-- Settles O36: STATE at operations 1 and 3 of RESET is `midState`'s two cases. -/
theorem advanceFollowsSequence : Obligations.AdvanceFollowsSequence := by
  refine fun s => ⟨fun h => ?_, fun h => State.advance_last (Nat.not_lt.2 h)⟩
  have hone : s.stepCount + 1 = 1 ↔ s.stepCount = 0 := by omega
  have hthree : s.stepCount + 1 = 3 ↔ s.stepCount = 2 := by omega
  rw [State.advance_more h]
  simp only [State.midState, hone, hthree]

/-- Settles O32: the operation is performed with its answer Ok, and advancing either completes the request or not. -/
theorem operationSucceeds : Obligations.OperationSucceeds := by
  intro s op rest hdue hop hscript
  have hlt := lt_length_of_due hdue
  refine ⟨_, step_of_due hdue hop, ?_⟩
  have hstore := sameStore_perform s op
  rw [State.perform_ok op hscript] at hstore ⊢
  refine ⟨by simp [TransportOp.events_eq_wireEvents], ?_, ?_, by simp, by simp, by simp, hstore, fun h => ?_,
    fun h => ?_⟩
  · rw [State.advance_dc, State.emitAll_dc]
    exact foldl_dcAfter_events _ op (ne_sendData_nil_of_due hdue)
  · rw [State.advance_rstN, State.emitAll_rstN]
    exact foldl_rstAfter_events _ op
  · exact State.advance_completes h
  · obtain ⟨hready, hseq, hstate⟩ := State.advance_continues
      (s := ({ s with opScript := rest } : State).emitAll op.events) (Nat.lt_of_le_of_ne hlt h)
    obtain ⟨hr, -⟩ := hdue
    exact ⟨hready.trans hr, hseq, by simp, fun hop2 => hstate.trans (State.midState_of_not_reset hop2 _)⟩

/-! #### An operation that failed

Its events up to the failure (41_sequencer.md R160-R162). -/

theorem State.emitFailed_sendCmd (s : State) (b : Byte) (k : Nat) (d : Bool) :
    s.emitFailed (.sendCmd b) k d = s.emitAll ([Event.cmd b].take k) := rfl

theorem State.emitFailed_sendData_some (s : State) (b : Byte) (l : List Byte) (k : Nat) (d : Bool) :
    s.emitFailed (.sendData (b :: l)) (k + 1) d = s.emitAll ((b :: l.take k).map Event.data) := by
  simp [State.emitFailed, List.map_take]

/-- The reset pulse lowers RST_N with its first event, raises it with its third, and leaves DC. -/
theorem pulse_pins (ms k : Nat) (dc rstN : Bool) :
    ([Event.rstLow, .delay ms, .rstHigh, .delay ms].take k).foldl dcAfter dc = dc ∧
    ([Event.rstLow, .delay ms, .rstHigh, .delay ms].take k).foldl rstAfter rstN =
      if k = 0 then rstN else decide (3 ≤ k) := by
  match k with
  | 0 | 1 | 2 | 3 => exact ⟨rfl, rfl⟩
  | k + 4 => simp [dcAfter, rstAfter]

theorem State.emitFailed_dc (s : State) (k : Nat) (d : Bool) (op : TransportOp) : op ≠ .sendData [] →
    (s.emitFailed op k d).dc = match op with
      | .sendCmd _ => if k = 0 then s.dc else false
      | .sendData _ => if k = 0 then d else true
      | _ => s.dc := by
  intro hdata
  cases op with
  | sendCmd b => cases k <;> simp [State.emitFailed_sendCmd, dcAfter]
  | busyWait => cases k <;> simp [State.emitFailed, dcAfter]
  | resetPulse ms => exact (pulse_pins ms k s.dc s.rstN).1
  | sendData l =>
    cases l with
    | nil => exact absurd rfl hdata
    | cons b l =>
      cases k with
      | zero => rfl
      | succ k =>
        rw [State.emitFailed_sendData_some]
        exact foldl_dcAfter_data _ (List.cons_ne_nil _ _)

theorem State.emitFailed_rstN (s : State) (k : Nat) (d : Bool) (op : TransportOp) : op ≠ .sendData [] →
    (s.emitFailed op k d).rstN = match op with
      | .resetPulse _ => if k = 0 then s.rstN else decide (3 ≤ k)
      | _ => s.rstN := by
  intro hdata
  cases op with
  | sendCmd b => cases k <;> simp [State.emitFailed_sendCmd, rstAfter]
  | busyWait => cases k <;> simp [State.emitFailed, rstAfter]
  | resetPulse ms => exact (pulse_pins ms k s.dc s.rstN).2
  | sendData l =>
    cases l with
    | nil => exact absurd rfl hdata
    | cons b l =>
      cases k with
      | zero => rfl
      | succ k =>
        rw [State.emitFailed_sendData_some]
        exact foldl_rstAfter_data _ _

/-- Settles O33: the operation is performed with its answer Err, and the request fails. -/
theorem transportErrorEndsRequest : Obligations.TransportErrorEndsRequest := by
  intro s op k d rest hdue hop hscript
  have hdata := ne_sendData_nil_of_due hdue
  refine ⟨_, step_of_due hdue hop, ?_⟩
  have hstore := sameStore_perform s op
  rw [State.perform_err op hscript] at hstore ⊢
  refine ⟨by simp [TransportOp.events_eq_wireEvents], ?_, ?_, rfl, rfl, rfl, by simp, by simp, hstore⟩
  · exact State.emitFailed_dc { s with opScript := rest } k d op hdata
  · exact State.emitFailed_rstN { s with opScript := rest } k d op hdata

/-! #### Free answers

With no script left the answer is drawn, and acting on an answer does not read the draw counter (log 2). -/

theorem State.answered_setDraws (s : State) (n : Nat) (op : TransportOp) (a : Config.OpAnswer) :
    ({ s with draws := n } : State).answered op a = { s.answered op a with draws := n } :=
  calc ({ s with draws := n } : State).answered op a
    _ = (s.answered op a).withUnread s.autoUpdate n := s.answered_withUnread s.autoUpdate n op a
    _ = (s.answered op a).withUnread (s.answered op a).autoUpdate n := by rw [State.answered_autoUpdate]

theorem State.polled_setDraws (s : State) (n : Nat) (a : Config.PollAnswer) :
    ({ s with draws := n } : State).polled a = { s.polled a with draws := n } :=
  calc ({ s with draws := n } : State).polled a
    _ = (s.polled a).withUnread s.autoUpdate n := s.polled_withUnread s.autoUpdate n a
    _ = (s.polled a).withUnread (s.polled a).autoUpdate n := by rw [State.polled_autoUpdate]

theorem State.takeOpAnswer_nil (h : s.opScript = []) :
    s.takeOpAnswer = (Config.opAnswer s.draws, { s with draws := s.draws + 1 }) := by
  simp [State.takeOpAnswer, h]

theorem State.takePollAnswer_nil (h : s.pollScript = []) :
    s.takePollAnswer = (Config.pollAnswer s.draws, { s with draws := s.draws + 1 }) := by
  simp [State.takePollAnswer, h]

theorem State.perform_free (op : TransportOp) (h : s.opScript = []) :
    s.perform op = { s.answered op (Config.opAnswer s.draws) with draws := s.draws + 1 } := by
  rw [State.perform_eq_answered, State.takeOpAnswer_nil h, State.answered_setDraws]

theorem State.perform_scripted (op : TransportOp) (a : Config.OpAnswer) (h : s.opScript = []) :
    ({ s with opScript := [a] } : State).perform op = s.answered op a := by
  have hs : ({ s with opScript := [] } : State) = s := by rw [← h]
  rw [State.perform_eq_answered, State.takeOpAnswer_cons (s := { s with opScript := [a] }) rfl]
  exact congrArg (State.answered op a) hs

theorem State.pollBusy_free (h : s.pollScript = []) :
    s.pollBusy = { s.polled (Config.pollAnswer s.draws) with draws := s.draws + 1 } := by
  rw [State.pollBusy_eq_polled, State.takePollAnswer_nil h, State.polled_setDraws]

theorem State.pollBusy_scripted (a : Config.PollAnswer) (h : s.pollScript = []) :
    ({ s with pollScript := [a] } : State).pollBusy = s.polled a := by
  have hs : ({ s with pollScript := [] } : State) = s := by rw [← h]
  rw [State.pollBusy_eq_polled, State.takePollAnswer_cons (s := { s with pollScript := [a] }) rfl]
  exact congrArg (State.polled a) hs

/-- Settles O34: a drawn answer and a scripted one are acted on alike. -/
theorem freeAnswersActAsScript : Obligations.FreeAnswersActAsScript := by
  refine ⟨fun s op hdue hop hscript => ⟨_, step_of_due (s := { s with opScript := _ }) hdue hop, ?_⟩,
    fun s ⟨hr, hk, _⟩ hscript => ⟨_, step_poll (s := { s with pollScript := _ }) hr hk, ?_⟩⟩
  · rw [step_of_due hdue hop, State.perform_free op hscript, State.perform_scripted op _ hscript]
  · rw [step_poll hr hk, State.pollBusy_free hscript, State.pollBusy_scripted _ hscript]

end OneOperation

/-! #### Busy-waits -/

section BusyWaits

open Sys2Proof.Claims

variable {s t : State}

/-- Settles O35: the four things a poll can find. -/
theorem busyWaitPolls : Obligations.BusyWaitPolls := by
  intro s rest hr hk
  rw [step_poll hr hk]
  refine ⟨fun h => ?_, fun h => ?_, fun h hb => ?_, fun h hb => ?_⟩
  · rw [State.pollBusy_ready h]; rfl
  · rw [State.pollBusy_err h]; rfl
  · rw [State.pollBusy_busy h hb]
  · rw [State.pollBusy_bound h hb]; rfl

/-- Busy polls that do not reach the bound only count up: by induction on their number. -/
theorem run_busyPolls (n : Nat) {rest : List Config.PollAnswer} (hr : s.ready = false)
    (hk : s.seq[s.stepCount]? = some .busyWait) (hb : ∀ k < n, s.busyMaxPolls ≠ some (s.polls + k + 1))
    (hscript : s.pollScript = busyPolls n ++ rest) :
    Sys2Proof.core.run n s = .next { s with polls := s.polls + n, pollScript := rest } := by
  induction n generalizing s with
  | zero =>
    have hnil : s.pollScript = rest := hscript
    rw [← hnil]
    rfl
  | succ n ih =>
    have hstep : Sys2Proof.core.step s = .next { s with pollScript := busyPolls n ++ rest, polls := s.polls + 1 } :=
      (step_poll hr hk).trans (congrArg _ (State.pollBusy_busy hscript (hb 0 (Nat.zero_lt_succ n))))
    rw [run_succ _ hstep, ih (s := { s with pollScript := busyPolls n ++ rest, polls := s.polls + 1 }) hr hk ?_ rfl]
    · simp only [Nat.add_assoc, Nat.add_comm 1 n]
    · intro k hlt
      have hnext := hb (k + 1) (Nat.succ_lt_succ hlt)
      rwa [← Nat.add_assoc, Nat.add_right_comm s.polls k 1] at hnext

/-- Settles O37: with no bound no poll reaches it. -/
theorem busyLineHoldsBlock : Obligations.BusyLineHoldsBlock := by
  intro n s rest hr hk hnone hscript
  exact run_busyPolls n hr hk (fun _ _ => by rw [hnone]; nofun) hscript

/-- The answers of `n` busy polls are those of the first `k` and of the others. -/
theorem busyPolls_split {k n : Nat} (h : k ≤ n) : busyPolls n = busyPolls k ++ busyPolls (n - k) := by
  rw [busyPolls, busyPolls, busyPolls, List.replicate_append_replicate, Nat.add_sub_cancel' h]

/-- Settles O38: before the `n`-th poll the count is under the bound, and the `n`-th reaches it. -/
theorem boundedWaitTimesOut : Obligations.BoundedWaitTimesOut := by
  intro n s rest hn hr hk hbound hpolls hscript
  have before (k : Nat) (hlt : k < n) : Sys2Proof.core.run k s =
      .next { s with polls := k, pollScript := busyPolls (n - k) ++ rest } := by
    have hrun := run_busyPolls k (rest := busyPolls (n - k) ++ rest) hr hk (fun j hj => ?_) ?_
    · rwa [hpolls, Nat.zero_add] at hrun
    · rw [hbound, hpolls]
      intro e
      have heq := Option.some.inj e
      omega
    · rw [hscript, busyPolls_split (Nat.le_of_lt hlt), List.append_assoc]
  refine ⟨fun k hlt => ⟨_, before k hlt, hr, rfl⟩, ?_⟩
  obtain ⟨m, rfl⟩ : ∃ m, n = m + 1 := ⟨n - 1, by omega⟩
  have hone : m + 1 - m = 1 := by omega
  have hm := before m (Nat.lt_succ_self m)
  rw [hone] at hm
  have hlast : Sys2Proof.core.step { s with polls := m, pollScript := busyPolls 1 ++ rest } = _ :=
    (step_poll (s := { s with polls := m, pollScript := busyPolls 1 ++ rest }) hr hk).trans
      (congrArg _ (State.pollBusy_bound rfl hbound))
  rw [run_add _ hm, run_succ _ hlast]
  rfl

end BusyWaits

end Sys2Proof.Machine

/-! ### Runs of a whole request -/

namespace Sys2Proof.Machine

section WholeRequests

open Sys2Proof.Claims

variable {s t u : State} {op : TransportOp} {l : List TransportOp} {waits : List Nat} {rest : List Config.OpAnswer}
  {more : List Config.PollAnswer}

/-- The answers of busy-waits that see these numbers of busy polls before Ready. -/
def waitAnswers (waits : List Nat) : List Config.PollAnswer := waits.flatMap fun b => busyPolls b ++ [.level false]

theorem waitAnswers_cons (b : Nat) (waits : List Nat) :
    waitAnswers (b :: waits) = busyPolls b ++ .level false :: waitAnswers waits := by
  simp [waitAnswers]

/-- The operations of a list that are answered once, and the busy-waits, which are polled. -/
def performedCount (l : List TransportOp) : Nat := l.countP fun op => op ≠ .busyWait
def waitCount (l : List TransportOp) : Nat := l.countP fun op => op = .busyWait

/-- A request in progress has the operations `l` left, all of them performable; the environment answers each Ok, and
each busy-wait Ready after the next of `waits` busy polls; busy polls need a block without a bound. -/
structure Pending (s : State) (l : List TransportOp) (waits : List Nat) (rest : List Config.OpAnswer)
    (more : List Config.PollAnswer) : Prop where
  ready : s.ready = false
  err : s.err = .none
  left : s.seq.drop s.stepCount = l
  runs : ∀ k < s.seq.length, opRuns s.seq k = true
  unbounded : ∀ b ∈ waits, b = 0 ∨ s.busyMaxPolls = none
  opScript : s.opScript = List.replicate (performedCount l) .ok ++ rest
  waits_length : waits.length = waitCount l
  pollScript : s.pollScript = waitAnswers waits ++ more

/-- What a request that has performed `l` and completed leaves. -/
structure Completed (s t : State) (l : List TransportOp) (rest : List Config.OpAnswer)
    (more : List Config.PollAnswer) : Prop where
  ready : t.ready = true
  seqState : t.seqState = s.finalState
  err : t.err = .none
  stepCount : t.stepCount = s.seq.length
  trace : t.trace = s.trace ++ (l.map wireEvents).flatten
  rstN : t.rstN = ((l.map wireEvents).flatten).foldl rstAfter s.rstN
  opScript : t.opScript = rest
  pollScript : t.pollScript = more
  store : sameStore s t

/-- The state after the operation due: its events emitted, the answers it took gone, and the sequencer advanced. -/
def State.afterOp (op : TransportOp) (rest : List Config.OpAnswer) (more : List Config.PollAnswer) (polls : Nat)
    (s : State) : State :=
  (({ s with opScript := rest, pollScript := more, polls := polls } : State).emitAll op.events).advance

theorem head_of_left (h : s.seq.drop s.stepCount = op :: l) :
    s.seq[s.stepCount]? = some op ∧ s.seq.drop (s.stepCount + 1) = l := by
  constructor
  · have hhead := congrArg (·[0]?) h
    simpa using hhead
  · rw [← List.tail_drop, h, List.tail_cons]

theorem run_one (h : step s = .next t) : Sys2Proof.core.run 1 s = .next t := run_succ Sys2Proof.core (n := 0) h

/-- An operation answered Ok takes one step. -/
theorem run_operation (hr : s.ready = false) (hk : s.seq[s.stepCount]? = some op)
    (hruns : opRuns s.seq s.stepCount = true) (hop : op ≠ .busyWait) (h : s.opScript = .ok :: rest) :
    Sys2Proof.core.run 1 s = .next (s.afterOp op rest s.pollScript s.polls) :=
  run_one ((step_perform hr hk hruns hop).trans (congrArg _ (State.perform_ok op h)))

/-- A busy-wait takes a step for each busy poll and one for Ready. -/
theorem run_wait {b : Nat} (hr : s.ready = false) (hk : s.seq[s.stepCount]? = some .busyWait)
    (hb : b = 0 ∨ s.busyMaxPolls = none) (h : s.pollScript = busyPolls b ++ .level false :: more) :
    Sys2Proof.core.run (b + 1) s = .next (s.afterOp .busyWait s.opScript more (s.polls + b)) := by
  have hbound : ∀ k < b, s.busyMaxPolls ≠ some (s.polls + k + 1) := by
    rcases hb with rfl | hnone
    · exact nofun
    · rw [hnone]; exact nofun
  refine (run_add _ (run_busyPolls b hr hk hbound h)).trans (run_one ((step_poll (s := { s with
    polls := s.polls + b, pollScript := .level false :: more }) hr hk).trans (congrArg _ (State.pollBusy_ready rfl))))

/-- The next operation of a pending request is performed: in one step, or in one and its busy polls. -/
theorem Pending.next (h : Pending s (op :: l) waits rest more) :
    ∃ n waits' polls, Sys2Proof.core.run n s = .next (s.afterOp op (List.replicate (performedCount l) .ok ++ rest)
        (waitAnswers waits' ++ more) polls) ∧
      waits'.length = waitCount l ∧ waits' ⊆ waits ∧
      n + (performedCount l + (waits'.map (· + 1)).sum) = performedCount (op :: l) + (waits.map (· + 1)).sum := by
  obtain ⟨hk, -⟩ := head_of_left h.left
  have hlt : s.stepCount < s.seq.length := (List.getElem?_eq_some_iff.1 hk).1
  have hlen := h.waits_length
  have hops := h.opScript
  have hpolls := h.pollScript
  by_cases hop : op = .busyWait
  · subst hop
    have hperf : performedCount (.busyWait :: l) = performedCount l := by simp [performedCount]
    have hwait : waitCount (.busyWait :: l) = waitCount l + 1 := by simp [waitCount]
    rw [hwait] at hlen
    obtain ⟨b, waits, rfl⟩ := List.exists_cons_of_length_eq_add_one hlen
    rw [waitAnswers_cons, List.append_assoc] at hpolls
    have hrun := run_wait h.ready hk (h.unbounded b (List.mem_cons_self ..)) hpolls
    rw [hops, hperf] at hrun
    refine ⟨b + 1, waits, _, hrun, by simpa using hlen, List.subset_cons_self _ _, ?_⟩
    rw [hperf, List.map_cons, List.sum_cons]
    omega
  · have hperf : performedCount (op :: l) = performedCount l + 1 := by simp [performedCount, hop]
    have hwait : waitCount (op :: l) = waitCount l := by simp [waitCount, hop]
    rw [hperf, List.replicate_succ] at hops
    have hrun := run_operation h.ready hk (h.runs _ hlt) hop hops
    rw [hpolls] at hrun
    refine ⟨1, waits, _, hrun, hlen.trans hwait, List.Subset.refl _, ?_⟩
    rw [hperf]
    omega

/-- Before the last operation `step` stands before the end of SEQ. -/
theorem Pending.lt_length (h : Pending s (op :: l) waits rest more) (hl : l ≠ []) :
    s.stepCount + 1 < s.seq.length := by
  obtain ⟨-, hleft⟩ := head_of_left h.left
  exact Nat.lt_of_not_le fun hle => hl (hleft.symm.trans (List.drop_eq_nil_of_le hle))

theorem State.afterOp_stepCount (s : State) (op : TransportOp) (rest : List Config.OpAnswer)
    (more : List Config.PollAnswer) (polls : Nat) : (s.afterOp op rest more polls).stepCount = s.stepCount + 1 :=
  State.advance_stepCount _

theorem State.afterOp_more {polls : Nat} (hmore : s.stepCount + 1 < s.seq.length) :
    (s.afterOp op rest more polls).ready = s.ready ∧ (s.afterOp op rest more polls).seq = s.seq := by
  obtain ⟨hready, hseq, -⟩ := State.advance_continues (s := ({ s with
    opScript := rest, pollScript := more, polls := polls } : State).emitAll op.events) hmore
  exact ⟨hready, hseq⟩

/-- Before the last operation, the rest of the request is pending. -/
theorem Pending.afterOp_more {waits' : List Nat} {polls : Nat} (h : Pending s (op :: l) waits rest more) (hl : l ≠ [])
    (hlen : waits'.length = waitCount l) (hsub : waits' ⊆ waits) :
    Pending (s.afterOp op (List.replicate (performedCount l) .ok ++ rest) (waitAnswers waits' ++ more) polls)
      l waits' rest more := by
  obtain ⟨-, hleft⟩ := head_of_left h.left
  obtain ⟨hready, hseq⟩ := State.afterOp_more (op := op) (rest := List.replicate (performedCount l) .ok ++ rest)
    (more := waitAnswers waits' ++ more) (polls := polls) (h.lt_length hl)
  exact {
    ready := hready.trans h.ready
    err := (State.advance_err _).trans h.err
    left := by rw [hseq, State.afterOp_stepCount]; exact hleft
    runs := by rw [hseq]; exact h.runs
    unbounded := fun b hb => by
      rw [State.afterOp, State.advance_busyMaxPolls]
      exact h.unbounded b (hsub hb)
    opScript := State.advance_opScript _
    waits_length := hlen
    pollScript := State.advance_pollScript _ }

/-- What the operation due leaves unchanged, and the events it emits. -/
theorem afterOp_store (s : State) (op : TransportOp) (rest : List Config.OpAnswer) (more : List Config.PollAnswer)
    (polls : Nat) : sameStore s (s.afterOp op rest more polls) := by
  simp [sameStore, State.afterOp]

/-- The last operation completes the request. -/
theorem Pending.afterOp_last {polls : Nat} (h : Pending s [op] waits rest more) :
    Completed s (s.afterOp op rest more polls) [op] rest more := by
  obtain ⟨hk, hleft⟩ := head_of_left h.left
  have hlt : s.stepCount < s.seq.length := (List.getElem?_eq_some_iff.1 hk).1
  have hlast : s.stepCount + 1 = s.seq.length := Nat.le_antisymm hlt (List.drop_eq_nil_iff.1 hleft)
  obtain ⟨hready, hstate⟩ := State.advance_completes (s := ({ s with
    opScript := rest, pollScript := more, polls := polls } : State).emitAll op.events) hlast
  exact {
    ready := hready
    seqState := hstate
    err := (State.advance_err _).trans h.err
    stepCount := (State.advance_stepCount _).trans hlast
    trace := by simp [State.afterOp, TransportOp.events_eq_wireEvents]
    rstN := by simp [State.afterOp, TransportOp.events_eq_wireEvents]
    opScript := State.advance_opScript _
    pollScript := State.advance_pollScript _
    store := afterOp_store s op rest more polls }

/-- An operation and then the rest of its request. -/
theorem Completed.cons {rest' : List Config.OpAnswer} {more' : List Config.PollAnswer} {polls : Nat}
    (hseq : (s.afterOp op rest' more' polls).seq = s.seq)
    (h : Completed (s.afterOp op rest' more' polls) t l rest more) : Completed s t (op :: l) rest more where
  ready := h.ready
  seqState := h.seqState.trans (State.advance_finalState _)
  err := h.err
  stepCount := h.stepCount.trans (congrArg List.length hseq)
  trace := by
    rw [h.trace]
    simp [State.afterOp, TransportOp.events_eq_wireEvents]
  rstN := by
    rw [h.rstN]
    simp [State.afterOp, TransportOp.events_eq_wireEvents]
  opScript := h.opScript
  pollScript := h.pollScript
  store := sameStore_trans (afterOp_store s op rest' more' polls) h.store

/-- A pending request completes, by induction on the operations it has left. -/
theorem Pending.completes (h : Pending s l waits rest more) (hl : l ≠ []) :
    ∃ t, Sys2Proof.core.run (performedCount l + (waits.map (· + 1)).sum) s = .next t ∧ Completed s t l rest more := by
  induction l generalizing s waits with
  | nil => exact absurd rfl hl
  | cons op l ih =>
    obtain ⟨n, waits', polls, hrun, hlen, hsub, hcount⟩ := h.next
    rw [← hcount]
    by_cases hlast : l = []
    · subst hlast
      obtain rfl : waits' = [] := List.eq_nil_of_length_eq_zero hlen
      exact ⟨_, hrun, h.afterOp_last⟩
    · obtain ⟨t, hrest, hdone⟩ := ih (h.afterOp_more (polls := polls) hlast hlen hsub) hlast
      exact ⟨t, (run_add _ hrun).trans hrest, hdone.cons (State.afterOp_more (h.lt_length hlast)).2⟩

/-- Every operation of a list is one or the other. -/
theorem performedCount_add_waitCount (l : List TransportOp) : performedCount l + waitCount l = l.length := by
  rw [Nat.add_comm, performedCount, waitCount, List.length_eq_countP_add_countP (fun op => op = TransportOp.busyWait)]
  simp

theorem waitAnswers_replicate_zero (n : Nat) : waitAnswers (List.replicate n 0) = List.replicate n (.level false) := by
  induction n with
  | zero => rfl
  | succ n ih => rw [List.replicate_succ, waitAnswers_cons, ih, List.replicate_succ]; rfl

/-- Settles O39: the rest of SEQ is pending, no busy-wait sees a busy poll. -/
theorem sequenceRunsInOrder : Obligations.SequenceRunsInOrder := by
  intro s rest more hr herr hlt hruns hops hpolls
  have hpending : Pending s (s.seq.drop s.stepCount)
      (List.replicate (waitCount (s.seq.drop s.stepCount)) 0) rest more :=
    { ready := hr, err := herr, left := rfl, runs := hruns
      unbounded := fun b hb => .inl (List.eq_of_mem_replicate hb)
      opScript := hops
      waits_length := List.length_replicate
      pollScript := by rw [waitAnswers_replicate_zero]; exact hpolls }
  have hne : s.seq.drop s.stepCount ≠ [] := fun h => Nat.not_le.2 hlt (List.drop_eq_nil_iff.1 h)
  obtain ⟨t, hrun, hdone⟩ := hpending.completes hne
  have hsteps : performedCount (s.seq.drop s.stepCount) +
      ((List.replicate (waitCount (s.seq.drop s.stepCount)) 0).map (· + 1)).sum = s.seq.length - s.stepCount := by
    rw [List.map_replicate, List.sum_replicate, ← List.length_drop, ← performedCount_add_waitCount]
    simp
  rw [hsteps] at hrun
  exact ⟨t, hrun, hdone.ready, hdone.seqState, hdone.err, hdone.stepCount, hdone.trace, hdone.opScript,
    hdone.pollScript, hdone.store⟩

/-- 21 of RESET's operations are answered once, two are busy-waits (41_sequencer.md R175, R177). -/
theorem resetOperations_counts (rows cols : BitVec 16) :
    performedCount (resetSeq ++ initSeq rows cols) = 21 ∧ waitCount (resetSeq ++ initSeq rows cols) = 2 := ⟨rfl, rfl⟩

/-- The 23 operations of RESET have 34 events, the reset pulse raising RST_N (41_sequencer.md R174). -/
theorem resetOperations_events (rows cols : BitVec 16) (rstN : Bool) :
    ((resetSeq ++ initSeq rows cols).map wireEvents).flatten.length = 34 ∧
    ((resetSeq ++ initSeq rows cols).map wireEvents).flatten.foldl rstAfter rstN = true := by
  simp [resetSeq, initSeq, frameSwReset, frameFillBw, frameFillRed, frameDriverOutput, frameDataEntry, frameRamXWindow,
    frameRamYWindow, frameBorder, frameTempSensor, frameUpdateOpt2, frameRefresh, frame_cons, wireEvents, bytes16,
    rstAfter]

/-- Settles O40: the 23 operations of an accepted RESET are pending, 21 performed and two busy-waits. -/
theorem resetCompletesInitialized : Obligations.ResetCompletesInitialized := by
  intro s t b1 b2 rest more hc hbound hops hpolls hexec
  obtain rfl := Host.Outcome.next.inj ((exec_reset_configured hc).symm.trans hexec)
  obtain ⟨hperformed, hwaits⟩ := resetOperations_counts s.rows s.cols
  obtain ⟨hevents, hrstN⟩ := resetOperations_events s.rows s.cols s.rstN
  have hpending : Pending ((s.accept 0x2).start (resetSeq ++ initSeq s.rows s.cols) .initialized .hwReset)
      (resetSeq ++ initSeq s.rows s.cols) [b1, b2] rest more :=
    { ready := rfl, err := rfl, left := rfl, runs := (Runnable.resetOperations s.rows s.cols).runs
      unbounded := fun _ _ => .inr hbound
      opScript := by rw [hperformed]; exact hops
      waits_length := hwaits.symm
      pollScript := by simpa [waitAnswers] using hpolls }
  obtain ⟨u, hrun, hdone⟩ := hpending.completes nofun
  have hsteps : performedCount (resetSeq ++ initSeq s.rows s.cols) + ([b1, b2].map (· + 1)).sum =
      21 + (b1 + 1) + (b2 + 1) := by
    rw [hperformed]
    simp only [List.map_cons, List.map_nil, List.sum_cons, List.sum_nil]
    omega
  rw [hsteps] at hrun
  obtain ⟨-, -, -, -, -, hbw, hred, -⟩ := hdone.store
  exact ⟨u, hrun, hdone.ready, hdone.seqState, hdone.err, hdone.stepCount.trans (resetOperations_length _ _),
    hdone.rstN.trans hrstN, hdone.trace, hevents, hbw, hred, hdone.opScript, hdone.pollScript⟩

end WholeRequests

end Sys2Proof.Machine
